-- ==== Sys2Proof/Word.lean ====
section
/-! DEFINITION. The word types of the block: stream bytes, 7-bit data values, register words, transaction words and
binary32 words (30_encoding.md R80, R81, R87, R90). -/

namespace Sys2Proof

/-- One stream byte (30_encoding.md R81). -/
abbrev Byte := BitVec 8

/-- A 7-bit data value: a note, a velocity or half of a pitch bend (30_encoding.md R86). -/
abbrev Data7 := BitVec 7

/-- One register word of the port (20_memory.md R62). -/
abbrev Word := BitVec 32

/-- One host transaction word (30_encoding.md R80). -/
abbrev TxnWord := BitVec 44

/-- A completed message `{s, d1, d2}` (30_encoding.md R83, R87). -/
abbrev MsgWord := BitVec 24

/-- A number of the block: an IEEE 754 binary32 word, sign in bit 31, biased exponent in [30:23], fraction in [22:0]
(00_scope.md R2, 30_encoding.md R90). -/
abbrev Num32 := BitVec 32

/-- The binary32 operations whose result can be a NaN. -/
inductive NumOp where
  | add | sub | mul | div | floor
  deriving DecidableEq, Repr

end Sys2Proof
end

