-- ==== Sys2Proof/Config/FreeNan.lean ====
section
/-! DEFINITION. The free bits of a NaN result (notes/assumptions/2.md). -/

namespace Sys2Proof

/-- FREE VALUE (log 2): the sign and the 22 payload bits of the quiet NaN that an operation on these operands gives. IEEE 754
leaves them to the implementation and the spec (00_scope.md R2) says nothing about them. No body: no proof can see them. -/
opaque Config.nanBits : NumOp → Num32 → Num32 → BitVec 23

end Sys2Proof
end

