-- ==== Sys2Proof/Machine/Num32.lean ====
section
/-! DEFINITION. The arithmetic of Num32: IEEE 754 binary32, round to nearest even, subnormals kept, one rounding per
operation, no fusion (00_scope.md R2 to R5; 30_encoding.md R90). PRESUMED (log 13): what IEEE 754 says and R2 does not spell
out, the signs of zeros, the infinities and the NaNs. Every finite binary32 number is a whole number of units of
2^-149, so each operation computes the exact result on integers and rounds it once, at the end. -/

namespace Sys2Proof.Num32

/-- Bit 31. -/
def neg? (x : Num32) : Bool := x.msb

/-- Bits [30:0]: exponent and fraction, which order the magnitudes. -/
def mag (x : Num32) : Nat := x.toNat % 2 ^ 31

/-- The magnitude bits of an infinity: exponent all ones, fraction zero. -/
def infMag : Nat := 0x7F800000

def isNaN (x : Num32) : Bool := decide (infMag < mag x)

def isInf (x : Num32) : Bool := mag x == infMag

def isFinite (x : Num32) : Bool := decide (mag x < infMag)

/-- The whole number of units of 2^-149 that finite magnitude bits stand for. -/
def units (g : Nat) : Nat :=
  if g < 2 ^ 23 then g else (2 ^ 23 + g % 2 ^ 23) * 2 ^ (g / 2 ^ 23 - 1)

/-- The exact value of a finite Num32, in units of 2^-149. -/
def toUnits (x : Num32) : Int := if neg? x then -(units (mag x) : Int) else (units (mag x) : Int)

/-- The Num32 of a sign and magnitude bits. -/
def pack (neg : Bool) (g : Nat) : Num32 := BitVec.ofNat 32 (if neg then 2 ^ 31 + g else g)

/-- The magnitude bits nearest to `n / d` units of 2^-149, ties to even, overflow to infinity. The quantum is `2^e` units:
the last place of the binade of the integer part, and one unit among the subnormals. -/
def roundMag (n d : Nat) : Nat :=
  let e := (n / d).log2 - 23
  let q := d * 2 ^ e
  let m := n / q
  let r := n % q
  let m' := if q < 2 * r || (2 * r == q && m % 2 == 1) then m + 1 else m
  min (e * 2 ^ 23 + m') infMag

/-- A quiet NaN whose sign and payload are free (log 2). -/
def freeNaN (op : NumOp) (x y : Num32) : Num32 :=
  let f := Config.nanBits op x y
  pack f.msb (0x7FC00000 + f.toNat % 2 ^ 22)

/-- A signed infinity. -/
def inf (neg : Bool) : Num32 := pack neg infMag

/-- The rounded sum, the body of `+` and of `-`. An exact zero sum is +0 unless both operands are negative zeros. -/
def addWith (op : NumOp) (x y : Num32) : Num32 :=
  if isNaN x || isNaN y then freeNaN op x y
  else if isInf x then (if isInf y && neg? x != neg? y then freeNaN op x y else x)
  else if isInf y then y
  else
    let k := toUnits x + toUnits y
    if k = 0 then pack (neg? x && neg? y) 0
    else pack (decide (k < 0)) (roundMag k.natAbs 1)

/-- Negation, exact: it flips the sign bit (00_scope.md R2). -/
def neg (x : Num32) : Num32 := pack (!neg? x) (mag x)

/-- `x + y`, rounded once (00_scope.md R2). -/
def add (x y : Num32) : Num32 := addWith .add x y

/-- `x - y`, rounded once (00_scope.md R2). -/
def sub (x y : Num32) : Num32 := addWith .sub x (neg y)

/-- `x * y`, rounded once (00_scope.md R2). -/
def mul (x y : Num32) : Num32 :=
  if isNaN x || isNaN y then freeNaN .mul x y
  else if isInf x || isInf y then
    (if mag x == 0 || mag y == 0 then freeNaN .mul x y else inf (neg? x != neg? y))
  else pack (neg? x != neg? y) (roundMag (units (mag x) * units (mag y)) (2 ^ 149))

/-- `x / y`, rounded once (00_scope.md R2). -/
def div (x y : Num32) : Num32 :=
  if isNaN x || isNaN y then freeNaN .div x y
  else if isInf x then (if isInf y then freeNaN .div x y else inf (neg? x != neg? y))
  else if isInf y then pack (neg? x != neg? y) 0
  else if mag y == 0 then (if mag x == 0 then freeNaN .div x y else inf (neg? x != neg? y))
  else pack (neg? x != neg? y) (roundMag (units (mag x) * 2 ^ 149) (units (mag y)))

/-- The integer whose order is the order of the Nums: both zeros at 0. -/
def key (x : Num32) : Int := if neg? x then -(mag x : Int) else (mag x : Int)

/-- `x < y`: exact, false on a NaN (00_scope.md R4). -/
def lt (x y : Num32) : Bool := !isNaN x && !isNaN y && decide (key x < key y)

/-- `x <= y`: exact, false on a NaN (00_scope.md R4). -/
def le (x y : Num32) : Bool := !isNaN x && !isNaN y && decide (key x ≤ key y)

/-- `x == y`: exact, false on a NaN, true of the two zeros (00_scope.md R4). -/
def eq (x y : Num32) : Bool := !isNaN x && !isNaN y && decide (key x = key y)

/-- `x >= y` (00_scope.md R4). -/
def ge (x y : Num32) : Bool := le y x

/-- `x > y` (00_scope.md R4). -/
def gt (x y : Num32) : Bool := lt y x

/-- `clamp(x, lo, hi)`: a NaN maps to lo, and -0.0 passes a clamp from 0 unchanged (00_scope.md R4). -/
def clamp (x lo hi : Num32) : Num32 := if !ge x lo then lo else if gt x hi then hi else x

/-- `floor(x)`: the greatest whole number not above x, exact; a result of zero keeps the sign of x (42_oscillator.md R189). -/
def floor (x : Num32) : Num32 :=
  if isNaN x then freeNaN .floor x x
  else if isInf x then x
  else
    let k := toUnits x / 2 ^ 149
    if k = 0 then pack (neg? x) 0
    else pack (decide (k < 0)) (roundMag (k.natAbs * 2 ^ 149) 1)

/-- `toNum(i)`, rounding to nearest even (00_scope.md R5). -/
def ofInt (i : Int) : Num32 := pack (decide (i < 0)) (roundMag (i.natAbs * 2 ^ 149) 1)

/-- The Num32 nearest to the decimal literal `n / d` (00_scope.md R5). -/
def ofDec (n d : Nat) : Num32 := pack false (roundMag (n * 2 ^ 149) d)

/-- 0.0 (30_encoding.md R90). -/
def zero : Num32 := 0x00000000#32

/-- 1.0 (30_encoding.md R90). -/
def one : Num32 := 0x3F800000#32

/-- `clamp(x, 0.0, 1.0)`, the write clamp of the parameter registers (45_register_port.md R250). -/
def clampUnit (x : Num32) : Num32 := clamp x zero one

end Sys2Proof.Num32
end

