-- ==== Sys2Proof/Config.lean ====
section
/-! DEFINITION. The configuration of a model instance (00_scope.md section 4, R1), the two configuration functions EXP2 and
SIN with their named properties (R6, R7), and the values of this hardware. -/

namespace Sys2Proof

/-- RESET_PARAMS: the words written to the seven parameter registers at reset (70_reset_and_hazards.md R290). -/
structure ResetParams where
  cutoff : Word
  resonance : Word
  attack : Word
  decay : Word
  sustain : Word
  release : Word
  waveform : Word
  deriving DecidableEq, Repr

/-- What is fixed per model instance (R1). N_VOICES = 4 and NUM_FORMAT = binary32 are built into the types. -/
structure Config where
  /-- SAMPLE_RATE, in samples per second. -/
  sampleRate : Nat
  /-- BLOCK_SIZE, in ticks. -/
  blockSize : Nat
  /-- EVQ_DEPTH, in entries. -/
  evqDepth : Nat
  /-- RESET_PARAMS. -/
  resetParams : ResetParams
  /-- LEGACY_RACE (44_render.md R230). -/
  legacyRace : Bool
  /-- EXP2 (R6). -/
  exp2 : Num32 → Num32
  /-- SIN (R7). -/
  sin : Num32 → Num32
  /-- The free Booleans that LEGACY_RACE draws, by number (44_render.md R230). -/
  draw : Nat → Bool

/-- The parameters a configuration may have: EVQ_DEPTH fits the 6-bit count of STATUS1, BLOCK_SIZE the 9 bits of SAMPLE_POS
(00_scope.md section 4; 10_state.md R32, R37). -/
def Config.ok (c : Config) : Bool :=
  decide (1 ≤ c.evqDepth) && decide (c.evqDepth ≤ 63) && decide (1 ≤ c.blockSize) && decide (c.blockSize ≤ 512)

/-! ## EXP2 -/

/-- `440 * EXP2(toNum(n-69)/12)` for a candidate EXP2, the value EXP2_MONO speaks of (R6). -/
def Config.freqWith (exp2 : Num32 → Num32) (n : Nat) : Num32 :=
  Num32.mul (Num32.ofInt 440) (exp2 (Num32.div (Num32.ofInt ((n : Int) - 69)) (Num32.ofInt 12)))

/-- A function that a configuration may use as EXP2: the three named properties and no others (R6). -/
structure Exp2Fn where
  fn : Num32 → Num32
  /-- EXP2_ZERO. -/
  zero : fn Num32.zero = Num32.one
  /-- EXP2_MONO. -/
  mono : ∀ m n : Nat, m < n → n ≤ 127 → Num32.lt (Config.freqWith fn m) (Config.freqWith fn n) = true
  /-- EXP2_FINITE. -/
  finite : ∀ x : Num32, Num32.le (Num32.ofInt (-6)) x = true → Num32.le x (Num32.ofInt 6) = true →
    Num32.lt Num32.zero (fn x) = true ∧ Num32.lt (fn x) (Num32.ofInt 128) = true

/-- Some function with the three properties, `1 + x/8` kept in [1/4, 2]. It only shows that Exp2Fn is inhabited. -/
def Config.exp2Sample (x : Num32) : Num32 :=
  Num32.clamp (Num32.add Num32.one (Num32.div x (Num32.ofInt 8))) (Num32.ofDec 1 4) (Num32.ofInt 2)

theorem Num32.lt_trans {x y z : Num32} (h : Num32.lt x y = true) (h' : Num32.lt y z = true) : Num32.lt x z = true := by
  simp only [Num32.lt, Bool.and_eq_true, Bool.not_eq_true', decide_eq_true_eq] at h h' ⊢
  exact ⟨⟨h.1.1, h'.1.2⟩, Int.lt_trans h.2 h'.2⟩

theorem Config.exp2Sample_next :
    ∀ n ∈ List.range 127, Num32.lt (Config.freqWith Config.exp2Sample n) (Config.freqWith Config.exp2Sample (n + 1)) = true := by
  decide +kernel

theorem Config.exp2Sample_mono (m n : Nat) (h : m < n) (hn : n ≤ 127) :
    Num32.lt (Config.freqWith Config.exp2Sample m) (Config.freqWith Config.exp2Sample n) = true := by
  induction n, h using Nat.le_induction with
  | base => exact Config.exp2Sample_next m (List.mem_range.2 hn)
  | succ k hk ih => exact Num32.lt_trans (ih (by omega)) (Config.exp2Sample_next k (List.mem_range.2 hn))

/-- A clamp stays between bounds that are strictly inside an interval. -/
theorem Num32.clamp_strictly_inside (x lo hi a b : Num32) (hla : Num32.lt a lo = true) (hlb : Num32.lt lo b = true)
    (hha : Num32.lt a hi = true) (hhb : Num32.lt hi b = true) :
    Num32.lt a (Num32.clamp x lo hi) = true ∧ Num32.lt (Num32.clamp x lo hi) b = true := by
  unfold Num32.clamp
  split
  · exact ⟨hla, hlb⟩
  · split
    · exact ⟨hha, hhb⟩
    · rename_i hge hgt
      have hge' : Num32.le lo x = true := by simpa [Num32.ge] using hge
      have hgt' : Num32.lt hi x = false := by simpa [Num32.gt] using hgt
      simp only [Num32.lt, Num32.le, Bool.and_eq_true, Bool.not_eq_true', decide_eq_true_eq] at *
      obtain ⟨⟨-, hx⟩, hle⟩ := hge'
      have hxh : x.key ≤ hi.key := by simpa [hx, hha.1.2] using hgt'
      exact ⟨⟨⟨hla.1.1, hx⟩, by omega⟩, ⟨⟨hx, hhb.1.2⟩, by omega⟩⟩

/-- EXP2 of this hardware: OPAQUE (log 3). Nothing is known of it but the fields of Exp2Fn. -/
opaque Config.exp2Free [Inhabited Exp2Fn] : Exp2Fn

/-- The configuration function EXP2 (R6). -/
def Config.exp2Fn : Exp2Fn :=
  @Config.exp2Free
    ⟨{ fn := Config.exp2Sample
       zero := by decide +kernel
       mono := Config.exp2Sample_mono
       finite := fun x _ _ => Num32.clamp_strictly_inside _ _ _ _ _ (by decide +kernel) (by decide +kernel)
         (by decide +kernel) (by decide +kernel) }⟩

/-! ## SIN -/

/-- A function that a configuration may use as SIN: the two named properties and no others (R7). -/
structure SinFn where
  fn : Num32 → Num32
  /-- SIN_ZERO. -/
  zero : fn Num32.zero = Num32.zero
  /-- SIN_RANGE. -/
  range : ∀ x : Num32, Num32.isFinite x = true →
    Num32.le (Num32.ofInt (-1)) (fn x) = true ∧ Num32.le (fn x) (Num32.ofInt 1) = true

/-- SIN of this hardware: OPAQUE (log 3). Nothing is known of it but the fields of SinFn. -/
opaque Config.sinFree [Inhabited SinFn] : SinFn

/-- The configuration function SIN (R7). -/
def Config.sinFn : SinFn :=
  @Config.sinFree
    ⟨{ fn := fun _ => Num32.zero
       zero := rfl
       range := fun _ _ => by decide +kernel }⟩

/-! ## This hardware -/

/-- FREE VALUE (log 8): the Booleans that LEGACY_RACE draws (44_render.md R230). -/
opaque Config.drawBool : Nat → Bool

/-- DESIGN CHOICE (log 1): RESET_PARAMS is OPEN in the spec; the model names zero for each of the seven. -/
def Config.hwResetParams : ResetParams :=
  { cutoff := 0#32, resonance := 0#32, attack := 0#32, decay := 0#32, sustain := 0#32, release := 0#32, waveform := 0#32 }

/-- The configuration of this hardware (00_scope.md section 4). -/
def Config.hw : Config :=
  { sampleRate := 44100
    blockSize := 512
    evqDepth := 32
    resetParams := Config.hwResetParams
    legacyRace := false
    exp2 := Config.exp2Fn.fn
    sin := Config.sinFn.fn
    draw := Config.drawBool }

end Sys2Proof
end

