-- ==== Sys2Proof/Syntax.lean ====
section
/-! DEFINITION. The words the block is given and the instructions they stand for: one constructor of `Instr` per row of
spec/opcode_table.json (30_encoding.md). The table has three formats, at three levels of one transaction: TXN44, the host
transaction; MIDI_BYTE8, the stream byte inside BYTE_IN; MIDI_MSG24, the message the parser has assembled. -/

namespace Sys2Proof

/-- A word in one of the three formats of opcode_table.json. -/
inductive Raw where
  /-- TXN44: a host transaction word (R80). -/
  | txn (w : TxnWord)
  /-- MIDI_BYTE8: one byte of the stream (R81, R82). -/
  | byte (b : Byte)
  /-- MIDI_MSG24: a message of status, data1, data2 (R83, R87). -/
  | msg (w : MsgWord)
  deriving DecidableEq, Repr

/-- The four read-only views of a voice slot (10_state.md R38), in address order. -/
inductive VoiceView where
  | vstate | vlevel | vphase | vz
  deriving DecidableEq, Repr

/-- The instructions: the rows of spec/opcode_table.json. `b` is a stream byte, `a` a register address, `d` a DATA word, `k` a
transaction KIND, `s` a status byte, `d1` and `d2` the data values of a message. -/
inductive Instr where
  | byteIn (b : Byte)
  | wrCutoff (d : Word)
  | wrResonance (d : Word)
  | wrAttack (d : Word)
  | wrDecay (d : Word)
  | wrSustain (d : Word)
  | wrRelease (d : Word)
  | wrWaveform (d : Word)
  | wrIgnored07 (d : Word)
  | wrIgnored08to0F (a : Byte) (d : Word)
  | wrIgnored10to1F (a : Byte) (d : Word)
  | wrIgnored20to3F (a : Byte) (d : Word)
  | wrIgnored40to7F (a : Byte) (d : Word)
  | wrIgnored80toFF (a : Byte) (d : Word)
  | rdCutoff
  | rdResonance
  | rdAttack
  | rdDecay
  | rdSustain
  | rdRelease
  | rdWaveform
  | rdPitchbend
  | rdStatus0
  | rdStatus1
  | rdVoice (i : Fin 4) (v : VoiceView)
  | rdReserved0Ato0B (a : Byte)
  | rdReserved0Cto0F (a : Byte)
  | rdReserved20to3F (a : Byte)
  | rdReserved40to7F (a : Byte)
  | rdReserved80toFF (a : Byte)
  | sampleTick
  | reset
  | txnReserved0
  | txnReserved5
  | txnReserved6to7 (k : BitVec 4)
  | txnReserved8toB (k : BitVec 4)
  | txnReservedCtoD (k : BitVec 4)
  | txnReservedE
  | byteData (v : Data7)
  | byteStatusNoteoff
  | byteStatusNoteon
  | byteStatusA0
  | byteStatusB0
  | byteStatusC0
  | byteStatusD0
  | byteStatusPitchbend
  | byteStatusF0
  | byteStatusCh1 (b : Byte)
  | byteStatusCh2to3 (b : Byte)
  | byteStatusCh4to7 (b : Byte)
  | byteStatusCh8to15T8toB (b : Byte)
  | byteStatusCh8to15TCtoD (b : Byte)
  | byteStatusCh8to15TE (b : Byte)
  | byteRealtime (b : Byte)
  | msgNoteonVel0 (d1 : Data7)
  | msgNoteon (d1 d2 : Data7)
  | msgNoteoff (d1 d2 : Data7)
  | msgPitchbend (d1 d2 : Data7)
  | msgOtherChannel (s : Byte) (d1 d2 : Data7)
  | msgUnrecognized (s : Byte) (d1 d2 : Data7)
  deriving DecidableEq, Repr

end Sys2Proof
end

