-- ==== Sys2Proof/WellFormed.lean ====
section
/-! DEFINITION. Which terms of `Instr` stand for words of their row: each operand in the range the row's mask leaves it
(spec/opcode_table.json; 30_encoding.md R80, R81, R87). -/

namespace Sys2Proof

/-- `lo <= x <= hi`, as unsigned numbers. -/
def inRange {n : Nat} (x : BitVec n) (lo hi : Nat) : Bool := decide (lo ≤ x.toNat) && decide (x.toNat ≤ hi)

/-- A status byte: 0x80..0xF7 (30_encoding.md R81). -/
def isStatus (b : Byte) : Bool := inRange b 0x80 0xF7

/-- A row's test on a byte: `b & mask = value`. -/
def byteMatches (b mask value : Byte) : Bool := b &&& mask == value

/-- The channel-0 statuses that are not recognized (30_encoding.md R82, R87 row 6). -/
def isUnrecognized (s : Byte) : Bool := s == 0xA0#8 || s == 0xB0#8 || s == 0xC0#8 || s == 0xD0#8 || s == 0xF0#8

/-- CHAN, the low nibble of a status byte (30_encoding.md R81). -/
def channel (s : Byte) : Nat := s.toNat % 16

def wellFormed : Instr → Bool
  | .wrIgnored08to0F a _ => inRange a 0x08 0x0F
  | .wrIgnored10to1F a _ => inRange a 0x10 0x1F
  | .wrIgnored20to3F a _ => inRange a 0x20 0x3F
  | .wrIgnored40to7F a _ => inRange a 0x40 0x7F
  | .wrIgnored80toFF a _ => inRange a 0x80 0xFF
  | .rdReserved0Ato0B a => inRange a 0x0A 0x0B
  | .rdReserved0Cto0F a => inRange a 0x0C 0x0F
  | .rdReserved20to3F a => inRange a 0x20 0x3F
  | .rdReserved40to7F a => inRange a 0x40 0x7F
  | .rdReserved80toFF a => inRange a 0x80 0xFF
  | .txnReserved6to7 k => inRange k 0x6 0x7
  | .txnReserved8toB k => inRange k 0x8 0xB
  | .txnReservedCtoD k => inRange k 0xC 0xD
  | .byteStatusCh1 b => byteMatches b 0x8F#8 0x81#8
  | .byteStatusCh2to3 b => byteMatches b 0x8E#8 0x82#8
  | .byteStatusCh4to7 b => byteMatches b 0x8C#8 0x84#8
  | .byteStatusCh8to15T8toB b => byteMatches b 0xC8#8 0x88#8
  | .byteStatusCh8to15TCtoD b => byteMatches b 0xE8#8 0xC8#8
  | .byteStatusCh8to15TE b => byteMatches b 0xF8#8 0xE8#8
  | .byteRealtime b => byteMatches b 0xF8#8 0xF8#8
  | .msgNoteon _ d2 => d2 != 0#7
  | .msgOtherChannel s _ _ => isStatus s && channel s != 0
  | .msgUnrecognized s _ _ => isUnrecognized s
  | .byteIn _ | .wrCutoff _ | .wrResonance _ | .wrAttack _ | .wrDecay _ | .wrSustain _ | .wrRelease _ | .wrWaveform _
  | .wrIgnored07 _ | .rdCutoff | .rdResonance | .rdAttack | .rdDecay | .rdSustain | .rdRelease | .rdWaveform
  | .rdPitchbend | .rdStatus0 | .rdStatus1 | .rdVoice _ _ | .sampleTick | .reset | .txnReserved0 | .txnReserved5
  | .txnReservedE | .byteData _ | .byteStatusNoteoff | .byteStatusNoteon | .byteStatusA0 | .byteStatusB0
  | .byteStatusC0 | .byteStatusD0 | .byteStatusPitchbend | .byteStatusF0 | .msgNoteonVel0 _ | .msgNoteoff _ _
  | .msgPitchbend _ _ => true

end Sys2Proof
end

