-- ==== Sys2Proof/Decode.lean ====
section
/-! DEFINITION. The decoder, from the encodings of 30_encoding.md and spec/opcode_table.json, and the encoder after it. Every
transaction word and every stream byte is one instruction; a 24-bit word that is no message is rejected by name. -/

namespace Sys2Proof

/-! ## Fields -/

/-- KIND, bits [43:40] of a transaction word (R80). -/
def txnKind (w : TxnWord) : BitVec 4 := w.extractLsb' 40 4

/-- A, bits [39:32] of a transaction word (R80). -/
def txnA (w : TxnWord) : Byte := w.extractLsb' 32 8

/-- DATA, bits [31:0] of a transaction word (R80). -/
def txnData (w : TxnWord) : Word := w.extractLsb' 0 32

/-- The word `{KIND, A, DATA}` (R80). -/
def txnWord (k : BitVec 4) (a : Byte) (d : Word) : TxnWord :=
  k.setWidth 44 <<< 40 ||| a.setWidth 44 <<< 32 ||| d.setWidth 44

/-- s, bits [23:16] of a message word (R83). -/
def msgStatus (w : MsgWord) : Byte := w.extractLsb' 16 8

/-- d1 with its leading bit, bits [15:8] of a message word (R83). -/
def msgD1 (w : MsgWord) : Byte := w.extractLsb' 8 8

/-- d2 with its leading bit, bits [7:0] of a message word (R83). -/
def msgD2 (w : MsgWord) : Byte := w.extractLsb' 0 8

/-- The word `{s, 0b0, d1, 0b0, d2}` (R83). -/
def msgWord (s : Byte) (d1 d2 : Data7) : MsgWord :=
  s.setWidth 24 <<< 16 ||| d1.setWidth 24 <<< 8 ||| d2.setWidth 24

/-! ## The decoder -/

/-- Why a word is no instruction. -/
inductive Reject where
  /-- The status of a 24-bit message word is not in 0x80..0xF7 (R83, R84). -/
  | notAStatus
  /-- A data byte of a 24-bit message word has bit 7 set (R83, R87). -/
  | notADataByte
  deriving DecidableEq, Repr

/-- What decoding a word answers. -/
inductive Decoded where
  | ok (i : Instr)
  | reject (why : Reject)
  deriving DecidableEq, Repr

/-- The view that bits [1:0] of a voice address select (10_state.md R38). -/
def viewOf (j : Nat) : VoiceView :=
  match j % 4 with
  | 0 => .vstate
  | 1 => .vlevel
  | 2 => .vphase
  | _ => .vz

/-- The slot that bits [3:2] of a voice address select (10_state.md R38). -/
def slotOf (n : Nat) : Fin 4 := Fin.ofNat 4 (n / 4)

/-- The rows of REG_WRITE, by address (R250, R251, R252). -/
def decodeWrite (a : Byte) (d : Word) : Instr :=
  match a.toNat with
  | 0x00 => .wrCutoff d
  | 0x01 => .wrResonance d
  | 0x02 => .wrAttack d
  | 0x03 => .wrDecay d
  | 0x04 => .wrSustain d
  | 0x05 => .wrRelease d
  | 0x06 => .wrWaveform d
  | 0x07 => .wrIgnored07 d
  | n =>
    if n < 0x10 then .wrIgnored08to0F a d
    else if n < 0x20 then .wrIgnored10to1F a d
    else if n < 0x40 then .wrIgnored20to3F a d
    else if n < 0x80 then .wrIgnored40to7F a d
    else .wrIgnored80toFF a d

/-- The rows of REG_READ, by address (R253, R254). -/
def decodeRead (a : Byte) : Instr :=
  match a.toNat with
  | 0x00 => .rdCutoff
  | 0x01 => .rdResonance
  | 0x02 => .rdAttack
  | 0x03 => .rdDecay
  | 0x04 => .rdSustain
  | 0x05 => .rdRelease
  | 0x06 => .rdWaveform
  | 0x07 => .rdPitchbend
  | 0x08 => .rdStatus0
  | 0x09 => .rdStatus1
  | n =>
    if n < 0x0C then .rdReserved0Ato0B a
    else if n < 0x10 then .rdReserved0Cto0F a
    else if n < 0x20 then .rdVoice (slotOf (n - 0x10)) (viewOf (n - 0x10))
    else if n < 0x40 then .rdReserved20to3F a
    else if n < 0x80 then .rdReserved40to7F a
    else .rdReserved80toFF a

/-- A TXN44 word: KIND decides, and only the fields that kind uses are read (R80; log 12). -/
def decodeTxn (w : TxnWord) : Instr :=
  let k := txnKind w
  match k.toNat with
  | 0x0 => .txnReserved0
  | 0x1 => .byteIn (txnA w)
  | 0x2 => decodeWrite (txnA w) (txnData w)
  | 0x3 => decodeRead (txnA w)
  | 0x4 => .sampleTick
  | 0x5 => .txnReserved5
  | 0x6 => .txnReserved6to7 k
  | 0x7 => .txnReserved6to7 k
  | 0xC => .txnReservedCtoD k
  | 0xD => .txnReservedCtoD k
  | 0xE => .txnReservedE
  | 0xF => .reset
  | _ => .txnReserved8toB k

/-- A status byte of channel 0: one row per TYPE (R82). -/
def decodeStatusCh0 (b : Byte) : Instr :=
  match b.toNat / 16 with
  | 0x8 => .byteStatusNoteoff
  | 0x9 => .byteStatusNoteon
  | 0xA => .byteStatusA0
  | 0xB => .byteStatusB0
  | 0xC => .byteStatusC0
  | 0xD => .byteStatusD0
  | 0xE => .byteStatusPitchbend
  | _ => .byteStatusF0

/-- A MIDI_BYTE8: the class of the byte, and for a status byte its row (R81, R82). -/
def decodeByte (b : Byte) : Instr :=
  if b.toNat < 0x80 then .byteData (b.setWidth 7)
  else if 0xF8 ≤ b.toNat then .byteRealtime b
  else if channel b = 0 then decodeStatusCh0 b
  else if channel b = 1 then .byteStatusCh1 b
  else if channel b ≤ 3 then .byteStatusCh2to3 b
  else if channel b ≤ 7 then .byteStatusCh4to7 b
  else if b.toNat < 0xC0 then .byteStatusCh8to15T8toB b
  else if b.toNat < 0xE0 then .byteStatusCh8to15TCtoD b
  else .byteStatusCh8to15TE b

/-- The row of a completed message; the first matching row wins (R87). -/
def decodeMessage (s : Byte) (d1 d2 : Data7) : Instr :=
  if s = 0x90#8 then (if d2 = 0#7 then .msgNoteonVel0 d1 else .msgNoteon d1 d2)
  else if s = 0x80#8 then .msgNoteoff d1 d2
  else if s = 0xE0#8 then .msgPitchbend d1 d2
  else if channel s ≠ 0 then .msgOtherChannel s d1 d2
  else .msgUnrecognized s d1 d2

/-- A MIDI_MSG24 word: a status byte and two data bytes, each with bit 7 clear (R83). -/
def decodeMsg (w : MsgWord) : Decoded :=
  if isStatus (msgStatus w) then
    if (msgD1 w).msb || (msgD2 w).msb then .reject .notADataByte
    else .ok (decodeMessage (msgStatus w) ((msgD1 w).setWidth 7) ((msgD2 w).setWidth 7))
  else .reject .notAStatus

/-- The decoder, total on every word of the three formats. -/
def decode : Raw → Decoded
  | .txn w => .ok (decodeTxn w)
  | .byte b => .ok (decodeByte b)
  | .msg w => decodeMsg w

/-! ## Words as spec/opcode_table.json numbers them -/

/-- The word of a table row of `nbits` bits: up to 8 bits a stream byte, up to 24 a message, above that a transaction. -/
def rawOfTable (nbits w : Nat) : Raw :=
  if nbits ≤ 8 then .byte (BitVec.ofNat 8 w)
  else if nbits ≤ 24 then .msg (BitVec.ofNat 24 w)
  else .txn (BitVec.ofNat 44 w)

/-- The instruction the decoder reads from a table word. -/
def decodeTableWord (nbits w : Nat) : Option Instr :=
  match decode (rawOfTable nbits w) with
  | .ok i => some i
  | .reject _ => none

/-! ## The encoder -/

/-- The address of a voice view (10_state.md R38). -/
def voiceAddr (i : Fin 4) (v : VoiceView) : Byte :=
  let j := match v with
    | .vstate => 0
    | .vlevel => 1
    | .vphase => 2
    | .vz => 3
  BitVec.ofNat 8 (0x10 + 4 * i.val + j)

/-- A REG_WRITE word (R80). -/
def writeWord (a : Byte) (d : Word) : Raw := .txn (txnWord 0x2#4 a d)

/-- A REG_READ word; its DATA field is ignored and written as 0 (R80). -/
def readWord (a : Byte) : Raw := .txn (txnWord 0x3#4 a 0#32)

/-- A word of a kind that uses neither A nor DATA (R80). -/
def bareWord (k : BitVec 4) : Raw := .txn (txnWord k 0#8 0#32)

/-- The word of an instruction, ignored fields 0 (R80, R82, R87, R94). -/
def encode : Instr → Raw
  | .byteIn b => .txn (txnWord 0x1#4 b 0#32)
  | .wrCutoff d => writeWord 0x00#8 d
  | .wrResonance d => writeWord 0x01#8 d
  | .wrAttack d => writeWord 0x02#8 d
  | .wrDecay d => writeWord 0x03#8 d
  | .wrSustain d => writeWord 0x04#8 d
  | .wrRelease d => writeWord 0x05#8 d
  | .wrWaveform d => writeWord 0x06#8 d
  | .wrIgnored07 d => writeWord 0x07#8 d
  | .wrIgnored08to0F a d => writeWord a d
  | .wrIgnored10to1F a d => writeWord a d
  | .wrIgnored20to3F a d => writeWord a d
  | .wrIgnored40to7F a d => writeWord a d
  | .wrIgnored80toFF a d => writeWord a d
  | .rdCutoff => readWord 0x00#8
  | .rdResonance => readWord 0x01#8
  | .rdAttack => readWord 0x02#8
  | .rdDecay => readWord 0x03#8
  | .rdSustain => readWord 0x04#8
  | .rdRelease => readWord 0x05#8
  | .rdWaveform => readWord 0x06#8
  | .rdPitchbend => readWord 0x07#8
  | .rdStatus0 => readWord 0x08#8
  | .rdStatus1 => readWord 0x09#8
  | .rdVoice i v => readWord (voiceAddr i v)
  | .rdReserved0Ato0B a => readWord a
  | .rdReserved0Cto0F a => readWord a
  | .rdReserved20to3F a => readWord a
  | .rdReserved40to7F a => readWord a
  | .rdReserved80toFF a => readWord a
  | .sampleTick => bareWord 0x4#4
  | .reset => bareWord 0xF#4
  | .txnReserved0 => bareWord 0x0#4
  | .txnReserved5 => bareWord 0x5#4
  | .txnReserved6to7 k => bareWord k
  | .txnReserved8toB k => bareWord k
  | .txnReservedCtoD k => bareWord k
  | .txnReservedE => bareWord 0xE#4
  | .byteData v => .byte (v.setWidth 8)
  | .byteStatusNoteoff => .byte 0x80#8
  | .byteStatusNoteon => .byte 0x90#8
  | .byteStatusA0 => .byte 0xA0#8
  | .byteStatusB0 => .byte 0xB0#8
  | .byteStatusC0 => .byte 0xC0#8
  | .byteStatusD0 => .byte 0xD0#8
  | .byteStatusPitchbend => .byte 0xE0#8
  | .byteStatusF0 => .byte 0xF0#8
  | .byteStatusCh1 b => .byte b
  | .byteStatusCh2to3 b => .byte b
  | .byteStatusCh4to7 b => .byte b
  | .byteStatusCh8to15T8toB b => .byte b
  | .byteStatusCh8to15TCtoD b => .byte b
  | .byteStatusCh8to15TE b => .byte b
  | .byteRealtime b => .byte b
  | .msgNoteonVel0 d1 => .msg (msgWord 0x90#8 d1 0#7)
  | .msgNoteon d1 d2 => .msg (msgWord 0x90#8 d1 d2)
  | .msgNoteoff d1 d2 => .msg (msgWord 0x80#8 d1 d2)
  | .msgPitchbend d1 d2 => .msg (msgWord 0xE0#8 d1 d2)
  | .msgOtherChannel s d1 d2 => .msg (msgWord s d1 d2)
  | .msgUnrecognized s d1 d2 => .msg (msgWord s d1 d2)

/-! ## The rows of spec/opcode_table.json -/

/-- A row's test on a word: `word & mask = value`. -/
structure Row where
  value : Nat
  mask : Nat
  deriving DecidableEq, Repr

/-- The match and mask that the table gives the instruction's row. -/
def opcodeRow : Instr → Row
  | .byteIn _ => { value := 0x10000000000, mask := 0xF0000000000 }
  | .wrCutoff _ => { value := 0x20000000000, mask := 0xFFF00000000 }
  | .wrResonance _ => { value := 0x20100000000, mask := 0xFFF00000000 }
  | .wrAttack _ => { value := 0x20200000000, mask := 0xFFF00000000 }
  | .wrDecay _ => { value := 0x20300000000, mask := 0xFFF00000000 }
  | .wrSustain _ => { value := 0x20400000000, mask := 0xFFF00000000 }
  | .wrRelease _ => { value := 0x20500000000, mask := 0xFFF00000000 }
  | .wrWaveform _ => { value := 0x20600000000, mask := 0xFFF00000000 }
  | .wrIgnored07 _ => { value := 0x20700000000, mask := 0xFFF00000000 }
  | .wrIgnored08to0F _ _ => { value := 0x20800000000, mask := 0xFF800000000 }
  | .wrIgnored10to1F _ _ => { value := 0x21000000000, mask := 0xFF000000000 }
  | .wrIgnored20to3F _ _ => { value := 0x22000000000, mask := 0xFE000000000 }
  | .wrIgnored40to7F _ _ => { value := 0x24000000000, mask := 0xFC000000000 }
  | .wrIgnored80toFF _ _ => { value := 0x28000000000, mask := 0xF8000000000 }
  | .rdCutoff => { value := 0x30000000000, mask := 0xFFF00000000 }
  | .rdResonance => { value := 0x30100000000, mask := 0xFFF00000000 }
  | .rdAttack => { value := 0x30200000000, mask := 0xFFF00000000 }
  | .rdDecay => { value := 0x30300000000, mask := 0xFFF00000000 }
  | .rdSustain => { value := 0x30400000000, mask := 0xFFF00000000 }
  | .rdRelease => { value := 0x30500000000, mask := 0xFFF00000000 }
  | .rdWaveform => { value := 0x30600000000, mask := 0xFFF00000000 }
  | .rdPitchbend => { value := 0x30700000000, mask := 0xFFF00000000 }
  | .rdStatus0 => { value := 0x30800000000, mask := 0xFFF00000000 }
  | .rdStatus1 => { value := 0x30900000000, mask := 0xFFF00000000 }
  | .rdVoice _ _ => { value := 0x31000000000, mask := 0xFF000000000 }
  | .rdReserved0Ato0B _ => { value := 0x30A00000000, mask := 0xFFE00000000 }
  | .rdReserved0Cto0F _ => { value := 0x30C00000000, mask := 0xFFC00000000 }
  | .rdReserved20to3F _ => { value := 0x32000000000, mask := 0xFE000000000 }
  | .rdReserved40to7F _ => { value := 0x34000000000, mask := 0xFC000000000 }
  | .rdReserved80toFF _ => { value := 0x38000000000, mask := 0xF8000000000 }
  | .sampleTick => { value := 0x40000000000, mask := 0xF0000000000 }
  | .reset => { value := 0xF0000000000, mask := 0xF0000000000 }
  | .txnReserved0 => { value := 0x00000000000, mask := 0xF0000000000 }
  | .txnReserved5 => { value := 0x50000000000, mask := 0xF0000000000 }
  | .txnReserved6to7 _ => { value := 0x60000000000, mask := 0xE0000000000 }
  | .txnReserved8toB _ => { value := 0x80000000000, mask := 0xC0000000000 }
  | .txnReservedCtoD _ => { value := 0xC0000000000, mask := 0xE0000000000 }
  | .txnReservedE => { value := 0xE0000000000, mask := 0xF0000000000 }
  | .byteData _ => { value := 0x00, mask := 0x80 }
  | .byteStatusNoteoff => { value := 0x80, mask := 0xFF }
  | .byteStatusNoteon => { value := 0x90, mask := 0xFF }
  | .byteStatusA0 => { value := 0xA0, mask := 0xFF }
  | .byteStatusB0 => { value := 0xB0, mask := 0xFF }
  | .byteStatusC0 => { value := 0xC0, mask := 0xFF }
  | .byteStatusD0 => { value := 0xD0, mask := 0xFF }
  | .byteStatusPitchbend => { value := 0xE0, mask := 0xFF }
  | .byteStatusF0 => { value := 0xF0, mask := 0xFF }
  | .byteStatusCh1 _ => { value := 0x81, mask := 0x8F }
  | .byteStatusCh2to3 _ => { value := 0x82, mask := 0x8E }
  | .byteStatusCh4to7 _ => { value := 0x84, mask := 0x8C }
  | .byteStatusCh8to15T8toB _ => { value := 0x88, mask := 0xC8 }
  | .byteStatusCh8to15TCtoD _ => { value := 0xC8, mask := 0xE8 }
  | .byteStatusCh8to15TE _ => { value := 0xE8, mask := 0xF8 }
  | .byteRealtime _ => { value := 0xF8, mask := 0xF8 }
  | .msgNoteonVel0 _ => { value := 0x900000, mask := 0xFF00FF }
  | .msgNoteon _ _ => { value := 0x900000, mask := 0xFF0000 }
  | .msgNoteoff _ _ => { value := 0x800000, mask := 0xFF0000 }
  | .msgPitchbend _ _ => { value := 0xE00000, mask := 0xFF0000 }
  | .msgOtherChannel _ _ _ => { value := 0x800000, mask := 0x800000 }
  | .msgUnrecognized _ _ _ => { value := 0x800000, mask := 0x800000 }

/-- The 38 rows of format TXN44. -/
def txnRows : List Row :=
  [opcodeRow (.byteIn 0#8), opcodeRow (.wrCutoff 0#32), opcodeRow (.wrResonance 0#32),
   opcodeRow (.wrAttack 0#32), opcodeRow (.wrDecay 0#32), opcodeRow (.wrSustain 0#32),
   opcodeRow (.wrRelease 0#32), opcodeRow (.wrWaveform 0#32), opcodeRow (.wrIgnored07 0#32),
   opcodeRow (.wrIgnored08to0F 0#8 0#32), opcodeRow (.wrIgnored10to1F 0#8 0#32),
   opcodeRow (.wrIgnored20to3F 0#8 0#32), opcodeRow (.wrIgnored40to7F 0#8 0#32),
   opcodeRow (.wrIgnored80toFF 0#8 0#32), opcodeRow .rdCutoff, opcodeRow .rdResonance, opcodeRow .rdAttack,
   opcodeRow .rdDecay, opcodeRow .rdSustain, opcodeRow .rdRelease, opcodeRow .rdWaveform,
   opcodeRow .rdPitchbend, opcodeRow .rdStatus0, opcodeRow .rdStatus1, opcodeRow (.rdVoice 0 .vstate),
   opcodeRow (.rdReserved0Ato0B 0#8), opcodeRow (.rdReserved0Cto0F 0#8), opcodeRow (.rdReserved20to3F 0#8),
   opcodeRow (.rdReserved40to7F 0#8), opcodeRow (.rdReserved80toFF 0#8), opcodeRow .sampleTick,
   opcodeRow .reset, opcodeRow .txnReserved0, opcodeRow .txnReserved5, opcodeRow (.txnReserved6to7 0#4),
   opcodeRow (.txnReserved8toB 0#4), opcodeRow (.txnReservedCtoD 0#4), opcodeRow .txnReservedE]

/-- The 16 rows of format MIDI_BYTE8. -/
def byteRows : List Row :=
  [opcodeRow (.byteData 0#7), opcodeRow .byteStatusNoteoff, opcodeRow .byteStatusNoteon,
   opcodeRow .byteStatusA0, opcodeRow .byteStatusB0, opcodeRow .byteStatusC0, opcodeRow .byteStatusD0,
   opcodeRow .byteStatusPitchbend, opcodeRow .byteStatusF0, opcodeRow (.byteStatusCh1 0#8),
   opcodeRow (.byteStatusCh2to3 0#8), opcodeRow (.byteStatusCh4to7 0#8),
   opcodeRow (.byteStatusCh8to15T8toB 0#8), opcodeRow (.byteStatusCh8to15TCtoD 0#8),
   opcodeRow (.byteStatusCh8to15TE 0#8), opcodeRow (.byteRealtime 0#8)]

end Sys2Proof
end

