-- ==== Sys2Proof/Machine/State.lean ====
section
/-! DEFINITION. The state of the machine: the block's own state, exactly the tuple of 10_state.md R20, and beside it the
host agents' transactions and the last response, which the model holds and the spec does not call state (logs 4, 7, 8). -/

namespace Sys2Proof.Machine

/-! ## The block's own state -/

/-- EnvState (10_state.md R24). The 3-bit codes 5 to 7 have no value here (R149, log 9). -/
inductive EnvState where
  | idle | attack | decay | sustain | release
  deriving DecidableEq, Repr

/-- A voice slot (10_state.md R21). -/
structure Voice where
  note : Data7
  env : EnvState
  level : Num32
  phase : Num32
  z : Num32
  deriving DecidableEq, Repr

/-- The four voice slots V[0..3] (10_state.md R21). -/
structure Pool where
  v0 : Voice
  v1 : Voice
  v2 : Voice
  v3 : Voice
  deriving DecidableEq, Repr

/-- PST, the parser state (10_state.md R27). -/
inductive ParserState where
  | waitingStatus
  | expectingData1 (status : Byte)
  | expectingData2 (status : Byte) (data1 : Data7)
  deriving DecidableEq, Repr

/-- An event for the render side (10_state.md R33). -/
inductive Event where
  | noteOn (note : Data7)
  | noteOff (note : Data7)
  deriving DecidableEq, Repr

/-- An entry of EVQ: the event, and whether a block was in progress when its message completed (10_state.md R36). -/
structure Entry where
  event : Event
  mid : Bool
  deriving DecidableEq, Repr

/-- The state vector S (10_state.md R20): this and nothing else is the block's state. -/
structure Block where
  pst : ParserState
  voices : Pool
  cursor : Fin 4
  cutoff : Num32
  resonance : Num32
  attack : Num32
  decay : Num32
  sustain : Num32
  release : Num32
  waveform : Word
  pitchBend : Num32
  wfLatch : Word
  pbLatch : Num32
  samplePos : BitVec 9
  /-- EVQ, head first. -/
  evq : List Entry
  deriving DecidableEq, Repr

/-- A voice after reset (10_state.md R21, 70_reset_and_hazards.md R290). -/
def Voice.reset : Voice :=
  { note := 0#7, env := .idle, level := Num32.zero, phase := Num32.zero, z := Num32.zero }

/-- The block after RESET: RESET_PARAMS go through the write clamp (70_reset_and_hazards.md R290). -/
def Block.reset (c : Config) : Block :=
  { pst := .waitingStatus
    voices := { v0 := Voice.reset, v1 := Voice.reset, v2 := Voice.reset, v3 := Voice.reset }
    cursor := 0
    cutoff := Num32.clampUnit c.resetParams.cutoff
    resonance := Num32.clampUnit c.resetParams.resonance
    attack := Num32.clampUnit c.resetParams.attack
    decay := Num32.clampUnit c.resetParams.decay
    sustain := Num32.clampUnit c.resetParams.sustain
    release := Num32.clampUnit c.resetParams.release
    waveform := c.resetParams.waveform
    pitchBend := Num32.zero
    wfLatch := 0#32
    pbLatch := Num32.zero
    samplePos := 0#9
    evq := [] }

/-! ## The host's side -/

/-- Who issues transactions (60_exceptions.md R273). -/
inductive Agent where
  | input | render | control | platform
  deriving DecidableEq, Repr

/-- What a transaction answers (30_encoding.md R80). -/
inductive Response where
  /-- No response. -/
  | none
  /-- BYTE_IN took its byte. -/
  | accepted
  /-- BYTE_IN did not take its byte (60_exceptions.md R272). -/
  | hold
  /-- A 32-bit word: a register, or the mix. -/
  | word (w : Word)
  deriving DecidableEq, Repr

/-- The machine's state. -/
structure State where
  /-- The block's own state (10_state.md R20). -/
  block : Block
  /-- MODEL'S OWN (log 4): the transactions the input agent still has to issue, oldest first. -/
  input : List Raw
  /-- MODEL'S OWN (log 4): those of the render agent. -/
  render : List Raw
  /-- MODEL'S OWN (log 4): those of the control agent. -/
  control : List Raw
  /-- MODEL'S OWN (log 4): those of the platform. -/
  platform : List Raw
  /-- MODEL'S OWN (log 4): the agents in the order in which the block takes their transactions. -/
  grants : List Agent
  /-- MODEL'S OWN (log 7): the response of the last transaction. -/
  resp : Response
  /-- MODEL'S OWN (log 8): how many free Booleans have been drawn. -/
  draws : Nat
  deriving DecidableEq, Repr

/-- No fault exists: the block raises no exception, and no transaction and no input value faults (60_exceptions.md R270,
log 9). Safe and exact: a step of this model cannot fault. -/
inductive Fault where
  deriving DecidableEq, Repr

/-- Why a step refuses. -/
inductive Refusal where
  /-- Raised by an arm of exec whose instruction has no meaning yet; no arm is left so. Safe: nothing is claimed of it. -/
  | notModelled (mnemonic : String)
  /-- Raised by step when the offered word decodes to no instruction, which only a 24-bit word that is no message does
  (log 11). Safe: the block's parser never forms such a word. -/
  | undecodable (why : Reject)
  deriving DecidableEq, Repr

/-- The machine after reset or power-on (70_reset_and_hazards.md R290, R291): the block at its reset values, no transaction
offered (log 5), no response given. -/
def State.reset : State :=
  { block := Block.reset Config.hw
    input := []
    render := []
    control := []
    platform := []
    grants := []
    resp := .none
    draws := 0 }

end Sys2Proof.Machine
end

