-- ==== Sys2Proof/Machine/Operands.lean ====
section
/-! DEFINITION. Every operand form: the fields of a completed message (30_encoding.md R86), the parameter registers by
address (10_state.md R28), and the words of the register port (30_encoding.md R90). -/

namespace Sys2Proof.Machine

/-! ## Operands of a message (R86) -/

/-- `v = (zext_14(d2) << 7) | zext_14(d1)`: d1 is the lsb, d2 the msb (R86; 20_memory.md R61). -/
def bendRaw (d1 d2 : Data7) : BitVec 14 := (d2.setWidth 14 <<< 7) ||| d1.setWidth 14

/-- `toNum(v - 8192) / 8192` (R86). -/
def bendOf (v : BitVec 14) : Num32 := Num32.div (Num32.ofInt ((v.toNat : Int) - 8192)) (Num32.ofInt 8192)

/-- TYPE, the high nibble of a status byte (30_encoding.md R81). -/
def statusType (s : Byte) : Nat := s.toNat / 16

/-- CHAN, the low nibble of a status byte (30_encoding.md R81). -/
def statusChan (s : Byte) : Nat := s.toNat % 16

/-! ## Parameter registers (10_state.md R28) -/

/-- The six numeric parameter registers, in address order 0x00..0x05. -/
inductive Param where
  | cutoff | resonance | attack | decay | sustain | release
  deriving DecidableEq, Repr

/-- The register, read. -/
def getParam (p : Param) (b : Block) : Num32 :=
  match p with
  | .cutoff => b.cutoff
  | .resonance => b.resonance
  | .attack => b.attack
  | .decay => b.decay
  | .sustain => b.sustain
  | .release => b.release

/-- The register, written with a value as it is. -/
def setParam (p : Param) (x : Num32) (b : Block) : Block :=
  match p with
  | .cutoff => { b with cutoff := x }
  | .resonance => { b with resonance := x }
  | .attack => { b with attack := x }
  | .decay => { b with decay := x }
  | .sustain => { b with sustain := x }
  | .release => { b with release := x }

/-! ## Port words (R90) -/

/-- `word2num(d)`: the Num whose binary32 encoding is d (45_register_port.md). -/
def word2num (d : Word) : Num32 := d

/-- `num2word(x)`: the binary32 encoding of x, as stored (45_register_port.md). -/
def num2word (x : Num32) : Word := x

end Sys2Proof.Machine
end

