-- ==== Sys2Proof/Machine/Flags.lean ====
section
/-! DEFINITION. The status flags and the read-only views: active bits (10_state.md R22, R39), EVQ_FULL (R36, R39), the codes
(R24, R27), STATUS0 and STATUS1 (R37), the voice views (R38) and the whole register space as it reads (section 11). -/

namespace Sys2Proof.Machine

/-- The 3-bit code of an envelope state (R24). -/
def envCode (e : EnvState) : BitVec 3 :=
  match e with
  | .idle => 0#3
  | .attack => 1#3
  | .decay => 2#3
  | .sustain => 3#3
  | .release => 4#3

/-- `active` of a voice: its envelope is not Idle (R22). -/
def Voice.active (v : Voice) : Bool := v.env != .idle

/-- Slot i (R21). -/
def Pool.get (p : Pool) (i : Fin 4) : Voice :=
  match i with
  | 0 => p.v0
  | 1 => p.v1
  | 2 => p.v2
  | 3 => p.v3

/-- `active(i)` (R22). -/
def active (b : Block) (i : Fin 4) : Bool := (b.voices.get i).active

/-- `count(EVQ)` (R36). -/
def evqCount (b : Block) : Nat := b.evq.length

/-- EVQ_FULL: `count(EVQ) = EVQ_DEPTH` (R36). -/
def evqFull (c : Config) (b : Block) : Bool := evqCount b == c.evqDepth

/-- PSTATE (R27). -/
def pstCode (p : ParserState) : BitVec 2 :=
  match p with
  | .waitingStatus => 0#2
  | .expectingData1 _ => 1#2
  | .expectingData2 _ _ => 2#2

/-- RSTATUS: the status byte of PST, 0x00 when it holds none (R37). -/
def pstStatus (p : ParserState) : Byte :=
  match p with
  | .waitingStatus => 0#8
  | .expectingData1 s => s
  | .expectingData2 s _ => s

/-- DATA1: the data1 of PST, 0 when it holds none (R37). -/
def pstData1 (p : ParserState) : Data7 :=
  match p with
  | .waitingStatus => 0#7
  | .expectingData1 _ => 0#7
  | .expectingData2 _ d1 => d1

/-- ACTIVE: bit i is active(i) (R37). -/
def activeBits (b : Block) : BitVec 4 :=
  (BitVec.ofBool (active b 3)).setWidth 4 <<< 3 ||| (BitVec.ofBool (active b 2)).setWidth 4 <<< 2 |||
    (BitVec.ofBool (active b 1)).setWidth 4 <<< 1 ||| (BitVec.ofBool (active b 0)).setWidth 4

/-- STATUS0: reserved [31:23], DATA1 [22:16], RSTATUS [15:8], PSTATE [7:6], CURSOR [5:4], ACTIVE [3:0] (R37). -/
def status0 (b : Block) : Word :=
  (pstData1 b.pst).setWidth 32 <<< 16 ||| (pstStatus b.pst).setWidth 32 <<< 8 ||| (pstCode b.pst).setWidth 32 <<< 6 |||
    (BitVec.ofNat 2 b.cursor.val).setWidth 32 <<< 4 ||| (activeBits b).setWidth 32

/-- STATUS1: reserved [31:23], EVQ_FULL [22], EVQ_COUNT [21:16], reserved [15:9], SAMPLE_POS [8:0] (R37). -/
def status1 (c : Config) (b : Block) : Word :=
  (BitVec.ofBool (evqFull c b)).setWidth 32 <<< 22 ||| (BitVec.ofNat 6 (evqCount b)).setWidth 32 <<< 16 |||
    b.samplePos.setWidth 32

/-- VSTATE_i: zero [31:11], the code of env [10:8], active [7], note [6:0] (R38). -/
def vstateWord (v : Voice) : Word :=
  (envCode v.env).setWidth 32 <<< 8 ||| (BitVec.ofBool v.active).setWidth 32 <<< 7 ||| v.note.setWidth 32

/-- A view of a voice slot (R38). -/
def voiceView (view : VoiceView) (v : Voice) : Word :=
  match view with
  | .vstate => vstateWord v
  | .vlevel => num2word v.level
  | .vphase => num2word v.phase
  | .vz => num2word v.z

/-- What each of the 256 addresses reads as (10_state.md section 11; 45_register_port.md R253, R254). -/
def regRead (c : Config) (b : Block) (a : Byte) : Word :=
  match a.toNat with
  | 0x00 => num2word b.cutoff
  | 0x01 => num2word b.resonance
  | 0x02 => num2word b.attack
  | 0x03 => num2word b.decay
  | 0x04 => num2word b.sustain
  | 0x05 => num2word b.release
  | 0x06 => b.waveform
  | 0x07 => num2word b.pitchBend
  | 0x08 => status0 b
  | 0x09 => status1 c b
  | n => if 0x10 ≤ n ∧ n < 0x20 then voiceView (viewOf (n - 0x10)) (b.voices.get (slotOf (n - 0x10))) else 0#32

end Sys2Proof.Machine
end

