-- ==== Sys2Proof/Machine/Ops.lean ====
section
/-! DEFINITION. The named operations over the voice slots, the cursor, the event queue and the parser state, and how a
transaction answers. There is no memory (20_memory.md R60), and no exception to take or to return from (60_exceptions.md
R270, R275): the only non-acceptance is the hold (R272). -/

namespace Sys2Proof.Machine

/-! ## Voice slots and cursor -/

/-- Slot i replaced (10_state.md R21). -/
def Pool.set (p : Pool) (i : Fin 4) (v : Voice) : Pool :=
  match i with
  | 0 => { p with v0 := v }
  | 1 => { p with v1 := v }
  | 2 => { p with v2 := v }
  | 3 => { p with v3 := v }

/-- The same change in every slot; the slots do not see each other. -/
def Pool.map (f : Voice → Voice) (p : Pool) : Pool :=
  { v0 := f p.v0, v1 := f p.v1, v2 := f p.v2, v3 := f p.v3 }

/-- `CURSOR <- (CURSOR + 1) mod 4` (41_voice_envelope.md R141). -/
def advanceCursor (b : Block) : Block := { b with cursor := Fin.ofNat 4 (b.cursor.val + 1) }

/-! ## Event application (41_voice_envelope.md section 2) -/

/-- The voice a NoteOn allocates (R141). -/
def attackVoice (n : Data7) : Voice :=
  { note := n, env := .attack, level := Num32.zero, phase := Num32.zero, z := Num32.zero }

/-- ApplyNoteOn(n): the slot at CURSOR, whatever it holds, then the cursor (R141). -/
def applyNoteOn (n : Data7) (b : Block) : Block :=
  advanceCursor { b with voices := b.voices.set b.cursor (attackVoice n) }

/-- One slot under ApplyNoteOff(n): an active voice with that note is released, its level unchanged (R142). -/
def releaseIfHolds (n : Data7) (v : Voice) : Voice :=
  if v.active && v.note == n then { v with env := .release } else v

/-- ApplyNoteOff(n): every matching voice (R142). -/
def applyNoteOff (n : Data7) (b : Block) : Block := { b with voices := b.voices.map (releaseIfHolds n) }

/-- An event, applied (44_render.md R221). -/
def applyEvent (e : Event) (b : Block) : Block :=
  match e with
  | .noteOn n => applyNoteOn n b
  | .noteOff n => applyNoteOff n b

/-! ## The event queue -/

/-- `mid = (SAMPLE_POS != 0)` (10_state.md R36). -/
def midBlock (b : Block) : Bool := b.samplePos != 0#9

/-- `enqueue(EVQ, (e, mid))`: at the tail, with mid as it is now (10_state.md R36; 40_parser.md R105, R106). -/
def enqueue (e : Event) (b : Block) : Block := { b with evq := b.evq ++ [{ event := e, mid := midBlock b }] }

/-! ## The parser (40_parser.md) -/

/-- NoteOnMsg(d1, d2): velocity 0 is a NoteOff (R105). -/
def noteOnMsg (d1 d2 : Data7) (b : Block) : Block :=
  if d2 ≠ 0#7 then enqueue (.noteOn d1) b else enqueue (.noteOff d1) b

/-- NoteOffMsg(d1, d2): the velocity d2 has no effect (R106). -/
def noteOffMsg (d1 _d2 : Data7) (b : Block) : Block := enqueue (.noteOff d1) b

/-- PitchBendMsg(d1, d2): the PITCHBEND register, nothing queued (R107). -/
def pitchBendMsg (d1 d2 : Data7) (b : Block) : Block := { b with pitchBend := bendOf (bendRaw d1 d2) }

/-- Unrecognized(s, d1, d2): no effect (R108). -/
def unrecognizedMsg (b : Block) : Block := b

/-- A completed message of another channel: consumed, no event (R104). -/
def otherChannelMsg (b : Block) : Block := b

/-- Complete(s, d1, d2): the channel filter, then the type (R104). -/
def complete (s : Byte) (d1 d2 : Data7) (b : Block) : Block :=
  if statusChan s ≠ 0 then otherChannelMsg b
  else
    match statusType s with
    | 0x9 => noteOnMsg d1 d2 b
    | 0x8 => noteOffMsg d1 d2 b
    | 0xE => pitchBendMsg d1 d2 b
    | _ => unrecognizedMsg b

/-- RealTime(b): no effect (R101). -/
def onRealTime (b : Block) : Block := b

/-- Status(s): in every parser state; a pending data byte is dropped (R102). -/
def onStatus (s : Byte) (b : Block) : Block := { b with pst := .expectingData1 s }

/-- Data(d): dropped, first data byte, or second data byte with running status kept (R103). -/
def onData (d : Data7) (b : Block) : Block :=
  match b.pst with
  | .waitingStatus => b
  | .expectingData1 s => { b with pst := .expectingData2 s d }
  | .expectingData2 s d1 => complete s d1 d { b with pst := .expectingData1 s }

/-- The effect of an accepted stream byte, by its class (R100). -/
def parseByte (x : Byte) (b : Block) : Block :=
  if 0xF8 ≤ x.toNat then onRealTime b
  else if x.msb then onStatus x b
  else onData (x.setWidth 7) b

/-! ## Transactions -/

/-- A transaction that answers nothing (30_encoding.md R80). -/
def silent (f : Block → Block) (s : State) : Host.Outcome State Fault Refusal :=
  .next { s with block := f s.block, resp := .none }

/-- A transaction that answers a word and changes nothing in the block (45_register_port.md R253, R254). -/
def respond (w : Word) (s : State) : Host.Outcome State Fault Refusal :=
  .next { s with resp := .word w }

/-- An input: held while EVQ is full, with nothing changed, and otherwise accepted with its effect (40_parser.md R100;
60_exceptions.md R272; log 10). -/
def accept (f : Block → Block) (s : State) : Host.Outcome State Fault Refusal :=
  if evqFull Config.hw s.block then .next { s with resp := .hold }
  else .next { s with block := f s.block, resp := .accepted }

/-- REG_WRITE to a numeric parameter: `P <- clamp(word2num(d), 0.0, 1.0)` (45_register_port.md R250). -/
def writeParam (p : Param) (d : Word) (b : Block) : Block := setParam p (Num32.clampUnit (word2num d)) b

/-- The response of a read of a numeric parameter, as stored (45_register_port.md R253). -/
def readParam (p : Param) (s : State) : Host.Outcome State Fault Refusal := respond (num2word (getParam p s.block)) s

end Sys2Proof.Machine
end

