-- ==== Sys2Proof/Machine/Parser.lean ====
section
/-! DEFINITION. The input transactions: BYTE_IN (40_parser.md R100), the stream bytes it carries (R101 to R103) and the messages
the parser completes (R104 to R108). A byte row acts as BYTE_IN of that byte, a message row as the completion of that message;
all are held while EVQ is full (R100, log 6). -/

namespace Sys2Proof.Machine

/-- BYTE_IN: the hold test, then the effect of the byte's class (R100). -/
def execByteIn (b : Byte) (s : State) : Host.Outcome State Fault Refusal := accept (parseByte b) s

/-- BYTE_DATA: a data byte (R103). -/
def execByteData (v : Data7) (s : State) : Host.Outcome State Fault Refusal := accept (onData v) s

/-- BYTE_STATUS_NOTEOFF: the status byte 0x80 (R102). -/
def execByteStatusNoteoff (s : State) : Host.Outcome State Fault Refusal := accept (onStatus 0x80#8) s

/-- BYTE_STATUS_NOTEON: the status byte 0x90 (R102). -/
def execByteStatusNoteon (s : State) : Host.Outcome State Fault Refusal := accept (onStatus 0x90#8) s

/-- BYTE_STATUS_A0: the status byte 0xA0 (R102). -/
def execByteStatusA0 (s : State) : Host.Outcome State Fault Refusal := accept (onStatus 0xA0#8) s

/-- BYTE_STATUS_B0: the status byte 0xB0 (R102). -/
def execByteStatusB0 (s : State) : Host.Outcome State Fault Refusal := accept (onStatus 0xB0#8) s

/-- BYTE_STATUS_C0: the status byte 0xC0 (R102). -/
def execByteStatusC0 (s : State) : Host.Outcome State Fault Refusal := accept (onStatus 0xC0#8) s

/-- BYTE_STATUS_D0: the status byte 0xD0 (R102). -/
def execByteStatusD0 (s : State) : Host.Outcome State Fault Refusal := accept (onStatus 0xD0#8) s

/-- BYTE_STATUS_PITCHBEND: the status byte 0xE0 (R102). -/
def execByteStatusPitchbend (s : State) : Host.Outcome State Fault Refusal := accept (onStatus 0xE0#8) s

/-- BYTE_STATUS_F0: the status byte 0xF0 (R102). -/
def execByteStatusF0 (s : State) : Host.Outcome State Fault Refusal := accept (onStatus 0xF0#8) s

/-- BYTE_STATUS_CH1: a status byte of channel 1 (R102). -/
def execByteStatusCh1 (b : Byte) (s : State) : Host.Outcome State Fault Refusal := accept (onStatus b) s

/-- BYTE_STATUS_CH2_3: a status byte of channel 2 or 3 (R102). -/
def execByteStatusCh2to3 (b : Byte) (s : State) : Host.Outcome State Fault Refusal := accept (onStatus b) s

/-- BYTE_STATUS_CH4_7: a status byte of channel 4 to 7 (R102). -/
def execByteStatusCh4to7 (b : Byte) (s : State) : Host.Outcome State Fault Refusal := accept (onStatus b) s

/-- BYTE_STATUS_CH8_15_T8_B: a status byte of channel 8 to 15, TYPE 8 to B (R102). -/
def execByteStatusCh8to15T8toB (b : Byte) (s : State) : Host.Outcome State Fault Refusal := accept (onStatus b) s

/-- BYTE_STATUS_CH8_15_TC_D: a status byte of channel 8 to 15, TYPE C or D (R102). -/
def execByteStatusCh8to15TCtoD (b : Byte) (s : State) : Host.Outcome State Fault Refusal := accept (onStatus b) s

/-- BYTE_STATUS_CH8_15_TE: a status byte of channel 8 to 15, TYPE E (R102). -/
def execByteStatusCh8to15TE (b : Byte) (s : State) : Host.Outcome State Fault Refusal := accept (onStatus b) s

/-- BYTE_REALTIME: no effect (R101). -/
def execByteRealtime (_b : Byte) (s : State) : Host.Outcome State Fault Refusal := accept onRealTime s

/-- MSG_NOTEON_VEL0: velocity 0, the event NoteOff (R105). -/
def execMsgNoteonVel0 (d1 : Data7) (s : State) : Host.Outcome State Fault Refusal := accept (noteOnMsg d1 0#7) s

/-- MSG_NOTEON: the event NoteOn (R105). -/
def execMsgNoteon (d1 d2 : Data7) (s : State) : Host.Outcome State Fault Refusal := accept (noteOnMsg d1 d2) s

/-- MSG_NOTEOFF: the event NoteOff (R106). -/
def execMsgNoteoff (d1 d2 : Data7) (s : State) : Host.Outcome State Fault Refusal := accept (noteOffMsg d1 d2) s

/-- MSG_PITCHBEND: the PITCHBEND register (R107). -/
def execMsgPitchbend (d1 d2 : Data7) (s : State) : Host.Outcome State Fault Refusal := accept (pitchBendMsg d1 d2) s

/-- MSG_OTHER_CHANNEL: no event (R104). -/
def execMsgOtherChannel (_st : Byte) (_d1 _d2 : Data7) (s : State) : Host.Outcome State Fault Refusal := accept otherChannelMsg s

/-- MSG_UNRECOGNIZED: no event (R108). -/
def execMsgUnrecognized (_st : Byte) (_d1 _d2 : Data7) (s : State) : Host.Outcome State Fault Refusal := accept unrecognizedMsg s

end Sys2Proof.Machine
end

