-- ==== Sys2Proof/Machine/RegisterPort.lean ====
section
/-! DEFINITION. The register port: REG_WRITE and REG_READ (45_register_port.md R250 to R254). -/

namespace Sys2Proof.Machine

/-- WR_CUTOFF: REG_WRITE to address 0x00, clamped (R250). -/
def execWrCutoff (d : Word) (s : State) : Host.Outcome State Fault Refusal := silent (writeParam .cutoff d) s

/-- WR_RESONANCE: REG_WRITE to address 0x01, clamped (R250). -/
def execWrResonance (d : Word) (s : State) : Host.Outcome State Fault Refusal := silent (writeParam .resonance d) s

/-- WR_ATTACK: REG_WRITE to address 0x02, clamped (R250). -/
def execWrAttack (d : Word) (s : State) : Host.Outcome State Fault Refusal := silent (writeParam .attack d) s

/-- WR_DECAY: REG_WRITE to address 0x03, clamped (R250). -/
def execWrDecay (d : Word) (s : State) : Host.Outcome State Fault Refusal := silent (writeParam .decay d) s

/-- WR_SUSTAIN: REG_WRITE to address 0x04, clamped (R250). -/
def execWrSustain (d : Word) (s : State) : Host.Outcome State Fault Refusal := silent (writeParam .sustain d) s

/-- WR_RELEASE: REG_WRITE to address 0x05, clamped (R250). -/
def execWrRelease (d : Word) (s : State) : Host.Outcome State Fault Refusal := silent (writeParam .release d) s

/-- WR_WAVEFORM: the word stored unchanged (R251). -/
def execWrWaveform (d : Word) (s : State) : Host.Outcome State Fault Refusal := silent (fun b => { b with waveform := d }) s

/-- A write to a read-only or reserved address: no effect (R252; log 15). -/
def ignoredWrite (s : State) : Host.Outcome State Fault Refusal := silent (fun b => b) s

/-- WR_IGNORED_07: PITCHBEND is read-only (R252). -/
def execWrIgnored07 (_d : Word) (s : State) : Host.Outcome State Fault Refusal := ignoredWrite s

/-- WR_IGNORED_08_0F (R252). -/
def execWrIgnored08to0F (_a : Byte) (_d : Word) (s : State) : Host.Outcome State Fault Refusal := ignoredWrite s

/-- WR_IGNORED_10_1F (R252). -/
def execWrIgnored10to1F (_a : Byte) (_d : Word) (s : State) : Host.Outcome State Fault Refusal := ignoredWrite s

/-- WR_IGNORED_20_3F (R252). -/
def execWrIgnored20to3F (_a : Byte) (_d : Word) (s : State) : Host.Outcome State Fault Refusal := ignoredWrite s

/-- WR_IGNORED_40_7F (R252). -/
def execWrIgnored40to7F (_a : Byte) (_d : Word) (s : State) : Host.Outcome State Fault Refusal := ignoredWrite s

/-- WR_IGNORED_80_FF (R252). -/
def execWrIgnored80toFF (_a : Byte) (_d : Word) (s : State) : Host.Outcome State Fault Refusal := ignoredWrite s

/-- RD_CUTOFF: REG_READ of address 0x00, as stored (R253). -/
def execRdCutoff (s : State) : Host.Outcome State Fault Refusal := readParam .cutoff s

/-- RD_RESONANCE: REG_READ of address 0x01, as stored (R253). -/
def execRdResonance (s : State) : Host.Outcome State Fault Refusal := readParam .resonance s

/-- RD_ATTACK: REG_READ of address 0x02, as stored (R253). -/
def execRdAttack (s : State) : Host.Outcome State Fault Refusal := readParam .attack s

/-- RD_DECAY: REG_READ of address 0x03, as stored (R253). -/
def execRdDecay (s : State) : Host.Outcome State Fault Refusal := readParam .decay s

/-- RD_SUSTAIN: REG_READ of address 0x04, as stored (R253). -/
def execRdSustain (s : State) : Host.Outcome State Fault Refusal := readParam .sustain s

/-- RD_RELEASE: REG_READ of address 0x05, as stored (R253). -/
def execRdRelease (s : State) : Host.Outcome State Fault Refusal := readParam .release s

/-- RD_WAVEFORM (R253). -/
def execRdWaveform (s : State) : Host.Outcome State Fault Refusal := respond s.block.waveform s

/-- RD_PITCHBEND (R253). -/
def execRdPitchbend (s : State) : Host.Outcome State Fault Refusal := respond (num2word s.block.pitchBend) s

/-- RD_STATUS0 (R253; 10_state.md R37). -/
def execRdStatus0 (s : State) : Host.Outcome State Fault Refusal := respond (status0 s.block) s

/-- RD_STATUS1 (R253; 10_state.md R37). -/
def execRdStatus1 (s : State) : Host.Outcome State Fault Refusal := respond (status1 Config.hw s.block) s

/-- RD_VOICE: a view of slot i (R253; 10_state.md R38). -/
def execRdVoice (i : Fin 4) (v : VoiceView) (s : State) : Host.Outcome State Fault Refusal := respond (voiceView v (s.block.voices.get i)) s

/-- A read of a reserved address: 0x00000000 (R254; log 15). -/
def reservedRead (s : State) : Host.Outcome State Fault Refusal := respond 0x00000000#32 s

/-- RD_RESERVED_0A_0B (R254). -/
def execRdReserved0Ato0B (_a : Byte) (s : State) : Host.Outcome State Fault Refusal := reservedRead s

/-- RD_RESERVED_0C_0F (R254). -/
def execRdReserved0Cto0F (_a : Byte) (s : State) : Host.Outcome State Fault Refusal := reservedRead s

/-- RD_RESERVED_20_3F (R254). -/
def execRdReserved20to3F (_a : Byte) (s : State) : Host.Outcome State Fault Refusal := reservedRead s

/-- RD_RESERVED_40_7F (R254). -/
def execRdReserved40to7F (_a : Byte) (s : State) : Host.Outcome State Fault Refusal := reservedRead s

/-- RD_RESERVED_80_FF (R254). -/
def execRdReserved80toFF (_a : Byte) (s : State) : Host.Outcome State Fault Refusal := reservedRead s

end Sys2Proof.Machine
end

