-- ==== Sys2Proof/Machine/Envelope.lean ====
section
/-! DEFINITION. The ADSR envelope: the parameters as a tick sees them and the five steps (41_voice_envelope.md R140, R143 to
R148). -/

namespace Sys2Proof.Machine

/-- The parameters that one tick reads, clamped for use: aT, dT, rT, S of R140 and c, r of 43_filter.md R210. -/
structure Live where
  aT : Num32
  dT : Num32
  rT : Num32
  s : Num32
  c : Num32
  r : Num32
  deriving DecidableEq, Repr

/-- `R = toNum(SAMPLE_RATE)` (R140; 00_scope.md R1). -/
def rate (c : Config) : Num32 := Num32.ofInt c.sampleRate

/-- A time constant as used: `clamp(t, 0.001, 1.0)` (R140). -/
def clampTime (t : Num32) : Num32 := Num32.clamp t (Num32.ofDec 1 1000) Num32.one

/-- The attack increment `1 / (aT * R)` (R144). -/
def attackInc (c : Config) (l : Live) : Num32 := Num32.div Num32.one (Num32.mul l.aT (rate c))

/-- The decay decrement `(1.0 - S) / (dT * R)` (R145). -/
def decayDec (c : Config) (l : Live) : Num32 := Num32.div (Num32.sub Num32.one l.s) (Num32.mul l.dT (rate c))

/-- The release decrement `S / (rT * R)` (R147). -/
def releaseDec (c : Config) (l : Live) : Num32 := Num32.div l.s (Num32.mul l.rT (rate c))

/-- AttackStep (R144). -/
def attackStep (c : Config) (l : Live) (v : Voice) : Voice :=
  let x := Num32.add v.level (attackInc c l)
  if Num32.ge x Num32.one then { v with level := Num32.one, env := .decay } else { v with level := x }

/-- DecayStep (R145). -/
def decayStep (c : Config) (l : Live) (v : Voice) : Voice :=
  let x := Num32.sub v.level (decayDec c l)
  if Num32.le x l.s then { v with level := l.s, env := .sustain } else { v with level := x }

/-- SustainStep: no effect (R146). -/
def sustainStep (v : Voice) : Voice := v

/-- ReleaseStep (R147). -/
def releaseStep (c : Config) (l : Live) (v : Voice) : Voice :=
  let x := Num32.sub v.level (releaseDec c l)
  if Num32.le x Num32.zero then { v with level := Num32.zero, env := .idle } else { v with level := x }

/-- IdleStep (R148). -/
def idleStep (v : Voice) : Voice := { v with level := Num32.zero }

/-- EnvStep: dispatch on the envelope state (R143). -/
def envStep (c : Config) (l : Live) (v : Voice) : Voice :=
  match v.env with
  | .attack => attackStep c l v
  | .decay => decayStep c l v
  | .sustain => sustainStep v
  | .release => releaseStep c l v
  | .idle => idleStep v

end Sys2Proof.Machine
end

