-- ==== Sys2Proof/Machine/Filter.lean ====
section
/-! DEFINITION. The tone filter (43_filter.md). -/

namespace Sys2Proof.Machine

/-- c = `clamp(CUTOFF, 0.01, 1.0)` (R210). -/
def clampCutoff (x : Num32) : Num32 := Num32.clamp x (Num32.ofDec 1 100) Num32.one

/-- r = `clamp(RESONANCE, 0.0, 0.95)` (R210). -/
def clampResonance (x : Num32) : Num32 := Num32.clamp x Num32.zero (Num32.ofDec 95 100)

/-- The low-pass line `z + c * (x - z)` (R211). -/
def lowPass (c x z : Num32) : Num32 := Num32.add z (Num32.mul c (Num32.sub x z))

/-- The resonance line `z - r * z` (R211). -/
def resonate (r z : Num32) : Num32 := Num32.sub z (Num32.mul r z)

/-- FilterStep: the new filter state, which is also the voice's output (R211). -/
def filterStep (l : Live) (x : Num32) (v : Voice) : Voice := { v with z := resonate l.r (lowPass l.c x v.z) }

end Sys2Proof.Machine
end

