-- ==== Sys2Proof/Machine/Oscillator.lean ====
section
/-! DEFINITION. The oscillator, the frequency of a note, the pitch multiplier and the phase advance (42_oscillator.md). -/

namespace Sys2Proof.Machine

/-- TWO_PI: the Num nearest to 2π (00_scope.md R7). -/
def twoPi : Num32 := 0x40C90FDB#32

/-- GAIN_SINE, 2.1 (R186). -/
def gainSine : Num32 := Num32.ofDec 21 10

/-- GAIN_SQUARE, 1.0 (R186). -/
def gainSquare : Num32 := Num32.ofDec 10 10

/-- GAIN_TRIANGLE, 2.4 (R186). -/
def gainTriangle : Num32 := Num32.ofDec 24 10

/-- GAIN_SAW, 1.2 (R186). -/
def gainSaw : Num32 := Num32.ofDec 12 10

/-- -1.0 (30_encoding.md R90). -/
def minusOne : Num32 := Num32.ofInt (-1)

/-- 0.5 (30_encoding.md R90). -/
def half : Num32 := Num32.ofDec 1 2

/-- What the oscillator gives: a value and its gain (R180). -/
structure OscOut where
  value : Num32
  gain : Num32
  deriving DecidableEq, Repr

/-- SineWave(p) (R181). -/
def sineWave (c : Config) (p : Num32) : OscOut := { value := c.sin (Num32.mul twoPi p), gain := gainSine }

/-- SquareWave(p) (R182). -/
def squareWave (p : Num32) : OscOut :=
  { value := if Num32.lt p half then Num32.one else minusOne, gain := gainSquare }

/-- TriangleWave(p) (R183). -/
def triangleWave (p : Num32) : OscOut :=
  { value :=
      if Num32.lt p half then Num32.add minusOne (Num32.mul (Num32.ofInt 4) p)
      else Num32.sub (Num32.ofInt 3) (Num32.mul (Num32.ofInt 4) p)
    gain := gainTriangle }

/-- SawWave(p) (R184). -/
def sawWave (p : Num32) : OscOut :=
  { value := Num32.sub (Num32.mul (Num32.ofInt 2) p) Num32.one, gain := gainSaw }

/-- SilentWave(p), the named default case (R185). -/
def silentWave (_p : Num32) : OscOut := { value := Num32.zero, gain := Num32.zero }

/-- Osc(w, p): waveform dispatch on the latched code (R180). -/
def osc (c : Config) (w : Word) (p : Num32) : OscOut :=
  match w.toNat with
  | 0 => sineWave c p
  | 1 => squareWave p
  | 2 => triangleWave p
  | 3 => sawWave p
  | _ => silentWave p

/-- FREQ(n) = `440.0 * EXP2(toNum(n - 69) / 12.0)` (R187). -/
def freq (c : Config) (n : Data7) : Num32 :=
  Num32.mul (Num32.ofInt 440) (c.exp2 (Num32.div (Num32.ofInt ((n.toNat : Int) - 69)) (Num32.ofInt 12)))

/-- PitchMul(b) = `EXP2((b * 2.0) / 12.0)` (R188). -/
def pitchMul (c : Config) (b : Num32) : Num32 :=
  c.exp2 (Num32.div (Num32.mul b (Num32.ofInt 2)) (Num32.ofInt 12))

/-- The phase increment `(FREQ(n) * pm) / R` (R189). -/
def phaseInc (c : Config) (pm : Num32) (n : Data7) : Num32 :=
  Num32.div (Num32.mul (freq c n) pm) (Num32.ofInt c.sampleRate)

/-- `p - floor(p)` (R189). -/
def wrapPhase (p : Num32) : Num32 := Num32.sub p (Num32.floor p)

/-- PhaseAdvance (R189). -/
def phaseAdvance (c : Config) (pm : Num32) (v : Voice) : Voice :=
  { v with phase := wrapPhase (Num32.add v.phase (phaseInc c pm v.note)) }

end Sys2Proof.Machine
end

