-- ==== Sys2Proof/Machine/Render.lean ====
section
/-! DEFINITION. SAMPLE_TICK: the block start, the voices in slot order, the mix and the block position (44_render.md). -/

namespace Sys2Proof.Machine

/-! ## Block start -/

/-- The block, and how many free Booleans have been drawn. -/
structure Drained where
  block : Block
  draws : Nat
  deriving DecidableEq, Repr

/-- An event that a block in progress may have overwritten, under LEGACY_RACE: kept or lost by a free draw; a lost NoteOn draws
whether its cursor advance is kept; a lost NoteOff has no effect (R230). -/
def raceEvent (c : Config) (e : Event) (d : Drained) : Drained :=
  if c.draw d.draws then { block := applyEvent e d.block, draws := d.draws + 1 }
  else
    match e with
    | .noteOn _ =>
      { block := if c.draw (d.draws + 1) then advanceCursor d.block else d.block, draws := d.draws + 2 }
    | .noteOff _ => { block := d.block, draws := d.draws + 1 }

/-- One queue entry at a block start (R221; R230 for a mid-block entry under LEGACY_RACE). -/
def drainEntry (c : Config) (d : Drained) (e : Entry) : Drained :=
  if c.legacyRace && e.mid then raceEvent c e.event d else { d with block := applyEvent e.event d.block }

/-- DrainEvents: every entry, head first, and EVQ empty after it (R221, R230). -/
def drainEvents (c : Config) (d : Drained) : Drained :=
  d.block.evq.foldl (drainEntry c) { d with block := { d.block with evq := [] } }

/-- LatchSnapshot (R222). -/
def latchSnapshot (b : Block) : Block := { b with wfLatch := b.waveform, pbLatch := b.pitchBend }

/-- What a tick does before its sample: at a block start, the events and then the latches (R220). -/
def blockStart (c : Config) (d : Drained) : Drained :=
  if d.block.samplePos = 0#9 then
    let d' := drainEvents c d
    { d' with block := latchSnapshot d'.block }
  else d

/-! ## The sample -/

/-- ReadLiveParameters: the six numeric parameters, once a tick, clamped for use (R223; 41_voice_envelope.md R140;
43_filter.md R210). -/
def readLive (b : Block) : Live :=
  { aT := clampTime b.attack
    dT := clampTime b.decay
    rT := clampTime b.release
    s := Num32.clamp b.sustain Num32.zero Num32.one
    c := clampCutoff b.cutoff
    r := clampResonance b.resonance }

/-- The filter input `(v * level) * g` (R224). -/
def shaped (o : OscOut) (level : Num32) : Num32 := Num32.mul (Num32.mul o.value level) o.gain

/-- VoiceSample: oscillator at the old phase, envelope, gain with the new level, filter, phase advance; the output is the new
filter state (R224). -/
def voiceSample (c : Config) (l : Live) (wf : Word) (pm : Num32) (v : Voice) : Voice :=
  let o := osc c wf v.phase
  let v1 := envStep c l v
  let v2 := filterStep l (shaped o v1.level) v1
  phaseAdvance c pm v2

/-- The voices and the mix, during a tick. -/
structure Mixing where
  voices : Pool
  mix : Num32
  deriving DecidableEq, Repr

/-- Slot i's turn: an active voice is processed and added to the mix, an inactive one is skipped (R220, R225). -/
def voiceTurn (c : Config) (l : Live) (wf : Word) (pm : Num32) (m : Mixing) (i : Fin 4) : Mixing :=
  let v := m.voices.get i
  if v.active then
    let v' := voiceSample c l wf pm v
    { voices := m.voices.set i v', mix := Num32.add m.mix v'.z }
  else m

/-- The four turns in ascending slot order, the mix from +0.0 (R220, R225). -/
def renderVoices (c : Config) (b : Block) : Mixing :=
  [0, 1, 2, 3].foldl (voiceTurn c (readLive b) b.wfLatch (pitchMul c b.pbLatch)) { voices := b.voices, mix := Num32.zero }

/-- `(SAMPLE_POS + 1) mod BLOCK_SIZE` (R226). -/
def nextPos (c : Config) (p : BitVec 9) : BitVec 9 := BitVec.ofNat 9 ((p.toNat + 1) % c.blockSize)

/-- What a tick leaves and answers. -/
structure Ticked where
  block : Block
  mix : Num32
  draws : Nat
  deriving DecidableEq, Repr

/-- SAMPLE_TICK over the block (R220). -/
def tick (c : Config) (b : Block) (draws : Nat) : Ticked :=
  let d := blockStart c { block := b, draws := draws }
  let m := renderVoices c d.block
  { block := { d.block with voices := m.voices, samplePos := nextPos c d.block.samplePos }
    mix := m.mix
    draws := d.draws }

/-- SAMPLE_TICK: never held; it answers the mix (R220, R225). -/
def execSampleTick (s : State) : Host.Outcome State Fault Refusal :=
  let t := tick Config.hw s.block s.draws
  .next { s with block := t.block, resp := .word (num2word t.mix), draws := t.draws }

end Sys2Proof.Machine
end

