-- ==== Sys2Proof/Machine/System.lean ====
section
/-! DEFINITION. RESET (70_reset_and_hazards.md R290) and the reserved transaction kinds (45_register_port.md R255). -/

namespace Sys2Proof.Machine

/-- RESET: every element of the block's state to its reset value; the configuration and the agents' transactions stay (R290,
log 5). -/
def execReset (s : State) : Host.Outcome State Fault Refusal := silent (fun _ => Block.reset Config.hw) s

/-- A reserved transaction kind: no effect, no response (R255; log 15). -/
def reservedKind (s : State) : Host.Outcome State Fault Refusal := silent (fun b => b) s

/-- TXN_RESERVED_0 (R255). -/
def execTxnReserved0 (s : State) : Host.Outcome State Fault Refusal := reservedKind s

/-- TXN_RESERVED_5 (R255). -/
def execTxnReserved5 (s : State) : Host.Outcome State Fault Refusal := reservedKind s

/-- TXN_RESERVED_6_7 (R255). -/
def execTxnReserved6to7 (_k : BitVec 4) (s : State) : Host.Outcome State Fault Refusal := reservedKind s

/-- TXN_RESERVED_8_B (R255). -/
def execTxnReserved8toB (_k : BitVec 4) (s : State) : Host.Outcome State Fault Refusal := reservedKind s

/-- TXN_RESERVED_C_D (R255). -/
def execTxnReservedCtoD (_k : BitVec 4) (s : State) : Host.Outcome State Fault Refusal := reservedKind s

/-- TXN_RESERVED_E (R255). -/
def execTxnReservedE (s : State) : Host.Outcome State Fault Refusal := reservedKind s

end Sys2Proof.Machine
end

