-- ==== Sys2Proof/Machine/Dispatch.lean ====
section
/-! DEFINITION. exec: one arm per instruction of spec/opcode_table.json. -/

namespace Sys2Proof.Machine

def exec (i : Instr) (s : State) : Host.Outcome State Fault Refusal :=
  match i with
  | .byteIn b => Sys2Proof.Machine.execByteIn b s
  | .wrCutoff d => Sys2Proof.Machine.execWrCutoff d s
  | .wrResonance d => Sys2Proof.Machine.execWrResonance d s
  | .wrAttack d => Sys2Proof.Machine.execWrAttack d s
  | .wrDecay d => Sys2Proof.Machine.execWrDecay d s
  | .wrSustain d => Sys2Proof.Machine.execWrSustain d s
  | .wrRelease d => Sys2Proof.Machine.execWrRelease d s
  | .wrWaveform d => Sys2Proof.Machine.execWrWaveform d s
  | .wrIgnored07 d => Sys2Proof.Machine.execWrIgnored07 d s
  | .wrIgnored08to0F a d => Sys2Proof.Machine.execWrIgnored08to0F a d s
  | .wrIgnored10to1F a d => Sys2Proof.Machine.execWrIgnored10to1F a d s
  | .wrIgnored20to3F a d => Sys2Proof.Machine.execWrIgnored20to3F a d s
  | .wrIgnored40to7F a d => Sys2Proof.Machine.execWrIgnored40to7F a d s
  | .wrIgnored80toFF a d => Sys2Proof.Machine.execWrIgnored80toFF a d s
  | .rdCutoff => Sys2Proof.Machine.execRdCutoff s
  | .rdResonance => Sys2Proof.Machine.execRdResonance s
  | .rdAttack => Sys2Proof.Machine.execRdAttack s
  | .rdDecay => Sys2Proof.Machine.execRdDecay s
  | .rdSustain => Sys2Proof.Machine.execRdSustain s
  | .rdRelease => Sys2Proof.Machine.execRdRelease s
  | .rdWaveform => Sys2Proof.Machine.execRdWaveform s
  | .rdPitchbend => Sys2Proof.Machine.execRdPitchbend s
  | .rdStatus0 => Sys2Proof.Machine.execRdStatus0 s
  | .rdStatus1 => Sys2Proof.Machine.execRdStatus1 s
  | .rdVoice slot view => Sys2Proof.Machine.execRdVoice slot view s
  | .rdReserved0Ato0B a => Sys2Proof.Machine.execRdReserved0Ato0B a s
  | .rdReserved0Cto0F a => Sys2Proof.Machine.execRdReserved0Cto0F a s
  | .rdReserved20to3F a => Sys2Proof.Machine.execRdReserved20to3F a s
  | .rdReserved40to7F a => Sys2Proof.Machine.execRdReserved40to7F a s
  | .rdReserved80toFF a => Sys2Proof.Machine.execRdReserved80toFF a s
  | .sampleTick => Sys2Proof.Machine.execSampleTick s
  | .reset => Sys2Proof.Machine.execReset s
  | .txnReserved0 => Sys2Proof.Machine.execTxnReserved0 s
  | .txnReserved5 => Sys2Proof.Machine.execTxnReserved5 s
  | .txnReserved6to7 k => Sys2Proof.Machine.execTxnReserved6to7 k s
  | .txnReserved8toB k => Sys2Proof.Machine.execTxnReserved8toB k s
  | .txnReservedCtoD k => Sys2Proof.Machine.execTxnReservedCtoD k s
  | .txnReservedE => Sys2Proof.Machine.execTxnReservedE s
  | .byteData v => Sys2Proof.Machine.execByteData v s
  | .byteStatusNoteoff => Sys2Proof.Machine.execByteStatusNoteoff s
  | .byteStatusNoteon => Sys2Proof.Machine.execByteStatusNoteon s
  | .byteStatusA0 => Sys2Proof.Machine.execByteStatusA0 s
  | .byteStatusB0 => Sys2Proof.Machine.execByteStatusB0 s
  | .byteStatusC0 => Sys2Proof.Machine.execByteStatusC0 s
  | .byteStatusD0 => Sys2Proof.Machine.execByteStatusD0 s
  | .byteStatusPitchbend => Sys2Proof.Machine.execByteStatusPitchbend s
  | .byteStatusF0 => Sys2Proof.Machine.execByteStatusF0 s
  | .byteStatusCh1 b => Sys2Proof.Machine.execByteStatusCh1 b s
  | .byteStatusCh2to3 b => Sys2Proof.Machine.execByteStatusCh2to3 b s
  | .byteStatusCh4to7 b => Sys2Proof.Machine.execByteStatusCh4to7 b s
  | .byteStatusCh8to15T8toB b => Sys2Proof.Machine.execByteStatusCh8to15T8toB b s
  | .byteStatusCh8to15TCtoD b => Sys2Proof.Machine.execByteStatusCh8to15TCtoD b s
  | .byteStatusCh8to15TE b => Sys2Proof.Machine.execByteStatusCh8to15TE b s
  | .byteRealtime b => Sys2Proof.Machine.execByteRealtime b s
  | .msgNoteonVel0 d1 => Sys2Proof.Machine.execMsgNoteonVel0 d1 s
  | .msgNoteon d1 d2 => Sys2Proof.Machine.execMsgNoteon d1 d2 s
  | .msgNoteoff d1 d2 => Sys2Proof.Machine.execMsgNoteoff d1 d2 s
  | .msgPitchbend d1 d2 => Sys2Proof.Machine.execMsgPitchbend d1 d2 s
  | .msgOtherChannel st d1 d2 => Sys2Proof.Machine.execMsgOtherChannel st d1 d2 s
  | .msgUnrecognized st d1 d2 => Sys2Proof.Machine.execMsgUnrecognized st d1 d2 s

end Sys2Proof.Machine
end

