-- ==== Sys2Proof/Machine/Port.lean ====
section
/-! DEFINITION. Where a step takes its next transaction from: the agents' own sequences and the order in which the block accepts
them (20_memory.md R66; 60_exceptions.md R272 to R274; log 4). -/

namespace Sys2Proof.Machine

/-- The transactions an agent still has to issue. -/
def pending (s : State) (a : Agent) : List Raw :=
  match a with
  | .input => s.input
  | .render => s.render
  | .control => s.control
  | .platform => s.platform

/-- An agent's sequence, replaced. -/
def setPending (s : State) (a : Agent) (ws : List Raw) : State :=
  match a with
  | .input => { s with input := ws }
  | .render => { s with render := ws }
  | .control => { s with control := ws }
  | .platform => { s with platform := ws }

/-- What a step finds at the ports. -/
inductive Offered where
  /-- No agent is granted: the host issues nothing (60_exceptions.md R279). -/
  | quiet
  /-- The granted agent has nothing to issue. -/
  | nothing (a : Agent)
  /-- The granted agent's oldest transaction. -/
  | word (a : Agent) (w : Raw)
  deriving DecidableEq, Repr

/-- The transaction the next step takes. -/
def offered (s : State) : Offered :=
  match s.grants with
  | [] => .quiet
  | a :: _ =>
    match pending s a with
    | [] => .nothing a
    | w :: _ => .word a w

/-- The next grant used up. -/
def dropGrant (s : State) : State := { s with grants := s.grants.tail }

/-- After a transaction of agent a: its grant is used up, and the transaction leaves a's sequence unless it was held, in which
case the agent stays at it (60_exceptions.md R272). -/
def settle (a : Agent) (s : State) : State :=
  if s.resp = .hold then dropGrant s else setPending (dropGrant s) a (pending s a).tail

/-- The agent that issues a word: REG_WRITE, REG_READ and the reserved kinds by control, SAMPLE_TICK by render, the rest of the
stream by input, RESET by the platform (60_exceptions.md R273; log 16). -/
def agentOf (w : Raw) : Agent :=
  match w with
  | .byte _ => .input
  | .msg _ => .input
  | .txn t =>
    match (txnKind t).toNat with
    | 0x1 => .input
    | 0x4 => .render
    | 0xF => .platform
    | _ => .control

/-- A word put before everything else its agent has to issue, and granted next. -/
def offerNext (w : Raw) (s : State) : State :=
  let a := agentOf w
  let s' := setPending s a (w :: pending s a)
  { s' with grants := a :: s'.grants }

end Sys2Proof.Machine
end

