-- ==== Sys2Proof/Machine/Step.lean ====
section
/-! DEFINITION. One step: the block takes the granted agent's oldest transaction, decodes it and runs it whole (20_memory.md
R64, R66). -/

namespace Sys2Proof.Machine

/-- One step. With no grant nothing happens (60_exceptions.md R279); a grant to an agent with nothing to issue passes; otherwise
the word is decoded and run, and a held transaction stays where it is (R272). -/
def step (s : State) : Host.Outcome State Fault Refusal :=
  match offered s with
  | .quiet => .next s
  | .nothing _ => .next (dropGrant s)
  | .word a w =>
    match decode w with
    | .reject why => .refused (.undecodable why)
    | .ok i =>
      match exec i s with
      | .next t => .next (settle a t)
      | .fault r => .fault r
      | .refused r => .refused r

/-- The state whose very next step runs the table word `w` of `nbits` bits: the word is offered by the agent it belongs to and
granted next (log 5). -/
def State.withFetchWord (s : State) (nbits w : Nat) : State := offerNext (rawOfTable nbits w) s

end Sys2Proof.Machine
end

