-- ==== Sys2Proof/Machine/Asm.lean ====
section
/-! DEFINITION. The assembler notation and its pseudo-instructions (30_encoding.md R94, R95): the transaction words each line
stands for. -/

namespace Sys2Proof.Machine.Asm

/-- `BYTE b`: `1_bb_00000000` (R94). -/
def byte (b : Byte) : Raw := encode (.byteIn b)

/-- `WR name, value`: `2_aa_dddddddd` (R94). -/
def wr (a : Byte) (d : Word) : Raw := .txn (txnWord 0x2#4 a d)

/-- `RD name`: `3_aa_00000000` (R94). -/
def rd (a : Byte) : Raw := .txn (txnWord 0x3#4 a 0#32)

/-- `TICK`: `4_00_00000000` (R94). -/
def tick : Raw := encode .sampleTick

/-- `RESET`: `F_00_00000000` (R94). -/
def reset : Raw := encode .reset

/-- `BYTES b1 b2 ... bk` (R95). -/
def bytes (bs : List Byte) : List Raw := bs.map byte

/-- `NOTEON n, vel` (R95). -/
def noteOn (n vel : Data7) : List Raw := bytes [0x90#8, n.setWidth 8, vel.setWidth 8]

/-- `NOTEOFF n` (R95). -/
def noteOff (n : Data7) : List Raw := bytes [0x80#8, n.setWidth 8, 0x00#8]

/-- `BEND v`: the low 7 bits, then the high 7 bits (R95). -/
def bend (v : BitVec 14) : List Raw :=
  bytes [0xE0#8, (v.extractLsb' 0 7).setWidth 8, (v.extractLsb' 7 7).setWidth 8]

/-- `TICK xk` (R95). -/
def ticks (k : Nat) : List Raw := List.replicate k tick

/-- `PRESET c, r, a, d, s, rl, w` (R95). -/
def preset (p : ResetParams) : List Raw :=
  [wr 0x00#8 p.cutoff, wr 0x01#8 p.resonance, wr 0x02#8 p.attack, wr 0x03#8 p.decay, wr 0x04#8 p.sustain,
   wr 0x05#8 p.release, wr 0x06#8 p.waveform]

end Sys2Proof.Machine.Asm
end

