-- ==== Sys2Proof/Safety.lean ====
section
/-! DEFINITION. What counts as a legal state and a right result, in the terms the claims use: the legal ranges of
10_state.md, the correctly rounded result of 00_scope.md R2, and names for what a tick starts from. -/

namespace Sys2Proof.Machine

/-! ## Legal states -/

/-- A Num in [0, 1] (10_state.md R25, R28). -/
def inUnit (x : Num32) : Prop := Num32.le Num32.zero x = true ∧ Num32.le x Num32.one = true

/-- A Num in [0, 1) (10_state.md R25). -/
def inPhase (x : Num32) : Prop := Num32.le Num32.zero x = true ∧ Num32.lt x Num32.one = true

/-- A finite Num of magnitude at most 4: the model's own bound for a filter state. DEDUCED (log 17). -/
def inFilterRange (x : Num32) : Prop := Num32.le (Num32.ofInt (-4)) x = true ∧ Num32.le x (Num32.ofInt 4) = true

/-- PST holds no status byte outside 0x80..0xF7 (10_state.md R27). -/
def ParserOk (b : Block) : Prop :=
  match b.pst with
  | .waitingStatus => True
  | .expectingData1 s => isStatus s = true
  | .expectingData2 s _ => isStatus s = true

/-- EVQ holds at most EVQ_DEPTH entries (10_state.md R36). -/
def QueueOk (b : Block) : Prop := b.evq.length ≤ Config.hw.evqDepth

/-- The six numeric parameters are in [0, 1] (10_state.md R28). -/
def ParamsOk (b : Block) : Prop := ∀ p : Param, inUnit (getParam p b)

/-- PITCHBEND and its latch are bends of some 14-bit value (10_state.md R30, R31). -/
def BendOk (b : Block) : Prop := (∃ v : BitVec 14, b.pitchBend = bendOf v) ∧ (∃ v : BitVec 14, b.pbLatch = bendOf v)

/-- Every level is in [0, 1] (10_state.md R25). -/
def LevelsOk (b : Block) : Prop := ∀ i, inUnit (b.voices.get i).level

/-- Every Idle voice has level 0.0 (41_voice_envelope.md R148). -/
def IdleOk (b : Block) : Prop := ∀ i, (b.voices.get i).env = .idle → (b.voices.get i).level = Num32.zero

/-- Every phase is in [0, 1) (10_state.md R25). -/
def PhasesOk (b : Block) : Prop := ∀ i, inPhase (b.voices.get i).phase

/-- Every filter state is finite, and within a bound that the filter keeps (10_state.md R21; 43_filter.md R211). -/
def FiltersOk (b : Block) : Prop := ∀ i, inFilterRange (b.voices.get i).z

/-- A legal state of the block: all of the above. -/
def Legal (b : Block) : Prop :=
  ParserOk b ∧ QueueOk b ∧ ParamsOk b ∧ BendOk b ∧ LevelsOk b ∧ IdleOk b ∧ PhasesOk b ∧ FiltersOk b

/-! ## Right results -/

/-- `r` is the binary32 result of rounding `num / den` units of 2^-149 to nearest, ties to even: an infinity of the right sign
from half a last place above the greatest finite number on, and otherwise a finite number that no finite number is nearer than,
with an even last bit where another is as near (00_scope.md R2). -/
def CorrectlyRounded (r : Num32) (num : Int) (den : Nat) : Prop :=
  if (2 ^ 25 - 1) * 2 ^ 252 * (den : Int) ≤ |num| then r = Num32.inf (decide (num < 0))
  else
    Num32.isFinite r = true ∧
    ∀ z, Num32.isFinite z = true →
      |Num32.toUnits r * den - num| ≤ |Num32.toUnits z * den - num| ∧
      (|Num32.toUnits r * den - num| = |Num32.toUnits z * den - num| → Num32.toUnits z ≠ Num32.toUnits r →
        Num32.mag r % 2 = 0)

/-- What a numeric parameter register stores of a written word, case by case: a NaN and every negative value 0.0, a value above
1.0 the value 1.0, and otherwise the word itself, -0.0 included (45_register_port.md R250). -/
def storedUnit (d : Word) : Num32 :=
  if Num32.isNaN d then Num32.zero
  else if Num32.lt d Num32.zero then Num32.zero
  else if Num32.lt Num32.one d then Num32.one
  else d

/-! ## A tick -/

/-- The block that the sample of a tick is computed from: after the events and the latches of a block start, and otherwise the
block itself (44_render.md R220). -/
def tickStart (s : State) : Block := (blockStart Config.hw { block := s.block, draws := s.draws }).block

/-- One SAMPLE_TICK's effect on the block of this hardware (44_render.md R220). -/
def tickBlock (b : Block) : Block := (tick Config.hw b 0).block

/-- What one voice becomes in a tick that starts from `b`: processed if active, skipped if not (44_render.md R220, R224). -/
def voiceAfter (b : Block) (i : Fin 4) : Voice :=
  if active b i then voiceSample Config.hw (readLive b) b.wfLatch (pitchMul Config.hw b.pbLatch) (b.voices.get i)
  else b.voices.get i

/-- The mix before slot i's turn, with it added if the slot is active (44_render.md R225). -/
def mixAfter (b : Block) (i : Fin 4) (m : Num32) : Num32 := if active b i then Num32.add m (voiceAfter b i).z else m

/-- The instructions that stand for the byte stream: BYTE_IN, the bytes and the messages. -/
def isStream (i : Instr) : Bool :=
  match i with
  | .byteIn _ => true
  | i =>
    match encode i with
    | .txn _ => false
    | .byte _ => true
    | .msg _ => true

/-- The instructions that are a REG_WRITE of a parameter. -/
def isParamWrite (i : Instr) : Bool :=
  match i with
  | .wrCutoff _ | .wrResonance _ | .wrAttack _ | .wrDecay _ | .wrSustain _ | .wrRelease _ | .wrWaveform _ => true
  | _ => false

end Sys2Proof.Machine
end

