-- ==== Sys2Proof/Certificates/Slice0/Obligations.lean ====
section
/-! DEFINITION. The statements for the provers. `hw` is this hardware's configuration; a field of State that a statement
does not name in a `with` is unchanged, so each equation with a next state is also the instruction's frame. The block has no
memory (20_memory.md R60); its register space is read through `regRead`. -/

open Sys2Proof Sys2Proof.Machine

/-! ## Encoding -/

/-- Decoding the encoding of a well-formed instruction of any of the three formats gives it back, every operand at every value
its row admits (30_encoding.md; opcode_table.json). -/
def Obligations.DecodeInvertsEncode : Prop :=
  ∀ i : Instr, wellFormed i = true → decode (encode i) = .ok i

/-- Whatever the decoder answers is a well-formed instruction. -/
def Obligations.DecodedIsWellFormed : Prop :=
  ∀ (w : Raw) (i : Instr), decode w = .ok i → wellFormed i = true

/-- Every transaction word matches exactly one TXN44 row of the table, the row of the instruction it decodes to. -/
def Obligations.TxnWordMatchesExactlyItsRow : Prop :=
  ∀ w : TxnWord, opcodeRow (decodeTxn w) ∈ txnRows ∧
    ∀ r ∈ txnRows, (w.toNat &&& r.mask = r.value ↔ r = opcodeRow (decodeTxn w))

/-- Every stream byte matches exactly one MIDI_BYTE8 row of the table, the row of the instruction it decodes to. -/
def Obligations.ByteMatchesExactlyItsRow : Prop :=
  ∀ b : Byte, opcodeRow (decodeByte b) ∈ byteRows ∧
    ∀ r ∈ byteRows, (b.toNat &&& r.mask = r.value ↔ r = opcodeRow (decodeByte b))

/-- The message table: the first matching row wins. A 24-bit word that is no message is rejected by name, which is the model's
choice (log 11): one whose first byte is no status byte, and one with a status byte whose second or third byte is no data
byte. -/
def Obligations.MessageRowFirstMatch : Prop :=
  (∀ (s : Byte) (d1 d2 : Data7), 0x80 ≤ s.toNat → s.toNat ≤ 0xF7 →
    decode (.msg (msgWord s d1 d2)) =
      .ok (if s = 0x90#8 ∧ d2 = 0#7 then .msgNoteonVel0 d1
        else if s = 0x90#8 then .msgNoteon d1 d2
        else if s = 0x80#8 then .msgNoteoff d1 d2
        else if s = 0xE0#8 then .msgPitchbend d1 d2
        else if s.toNat % 16 ≠ 0 then .msgOtherChannel s d1 d2
        else .msgUnrecognized s d1 d2)) ∧
  (∀ w : MsgWord, ((msgStatus w).toNat < 0x80 ∨ 0xF7 < (msgStatus w).toNat) →
    decode (.msg w) = .reject .notAStatus) ∧
  (∀ w : MsgWord, 0x80 ≤ (msgStatus w).toNat → (msgStatus w).toNat ≤ 0xF7 →
    (0x80 ≤ (msgD1 w).toNat ∨ 0x80 ≤ (msgD2 w).toNat) → decode (.msg w) = .reject .notADataByte)

/-- Words written out from the spec's encodings decode to the instructions they stand for. -/
def Obligations.SpecWordsDecode : Prop :=
  decode (.txn 0x19000000000#44) = .ok (.byteIn 0x90#8) ∧
  decode (.txn 0x2043FC00000#44) = .ok (.wrSustain 0x3FC00000#32) ∧
  decode (.txn 0x31600000000#44) = .ok (.rdVoice 1 .vphase) ∧
  decode (.txn 0x40000000000#44) = .ok .sampleTick ∧
  decode (.txn 0xF0000000000#44) = .ok .reset ∧
  decode (.txn 0x51234567890#44) = .ok .txnReserved5 ∧
  decode (.byte 0x45#8) = .ok (.byteData 0x45#7) ∧
  decode (.byte 0xE0#8) = .ok .byteStatusPitchbend ∧
  decode (.byte 0xF8#8) = .ok (.byteRealtime 0xF8#8) ∧
  decode (.msg 0x90407F#24) = .ok (.msgNoteon 0x40#7 0x7F#7)

/-! ## The step -/

/-- When the granted agent's oldest word decodes to i, the step is exec of i, its grant used up and its word taken, except that a
held word stays; i is well-formed, exec of it answers a next state and leaves every agent's words and the grants alone. -/
def Obligations.StepRunsTheDecodedInstruction : Prop :=
  ∀ (s : State) (a : Agent) (gs : List Agent) (w : Raw) (ws : List Raw) (i : Instr),
    s.grants = a :: gs → pending s a = w :: ws → decode w = .ok i →
    wellFormed i = true ∧
    ∃ t : State, exec i s = .next t ∧ t.grants = s.grants ∧ (∀ a', pending t a' = pending s a') ∧
      step s = .next (if t.resp = .hold then { t with grants := gs } else setPending { t with grants := gs } a ws)

/-- With no grant a step changes nothing; a grant to an agent with nothing to issue is used up and changes nothing else. -/
def Obligations.StepWithNothingOffered : Prop :=
  (∀ s : State, s.grants = [] → step s = .next s) ∧
  (∀ (s : State) (a : Agent) (gs : List Agent), s.grants = a :: gs → pending s a = [] →
    step s = .next { s with grants := gs })

/-- No transaction and no input value faults or is refused: exec always answers a next state. -/
def Obligations.NoTransactionFaults : Prop :=
  ∀ (i : Instr) (s : State), ∃ t : State, exec i s = .next t

/-- A held transaction changes no state, and its agent stays at it. That the agents' words stand in State and a held word's grant
is used up is the model's choice (logs 4 and 10), and that a byte or a message can be offered on its own is too (log 6). -/
def Obligations.HeldWordStays : Prop :=
  ∀ (s : State) (a : Agent) (gs : List Agent) (w : Raw) (ws : List Raw) (i : Instr),
    s.grants = a :: gs → pending s a = w :: ws → decode w = .ok i → isStream i = true → s.block.evq.length = 32 →
    step s = .next { s with grants := gs, resp := .hold }

/-- The hold is lifted by a block-start tick: it empties EVQ, and the byte offered next is accepted. -/
def Obligations.BlockStartLiftsTheHold : Prop :=
  ∀ s : State, s.block.samplePos = 0#9 →
    ∃ t : State, exec .sampleTick s = .next t ∧ t.block.evq = [] ∧
      ∀ b : Byte, ∃ u : State, exec (.byteIn b) t = .next u ∧ u.resp = .accepted

/-! ## The parser -/

/-- While EVQ is full, BYTE_IN is held: nothing changes. That a byte row or a message row offered on its own is held too is the
model's choice (log 6). -/
def Obligations.StreamHeldWhileQueueFull : Prop :=
  ∀ (i : Instr) (s : State), isStream i = true → s.block.evq.length = 32 → exec i s = .next { s with resp := .hold }

/-- BYTE_IN of a byte has the effect of the byte's own row. That a byte row offered on its own acts as BYTE_IN of that byte is
the model's choice (log 6). -/
def Obligations.ByteInRunsItsByteRow : Prop :=
  ∀ (b : Byte) (s : State), exec (.byteIn b) s = exec (decodeByte b) s

/-- A status byte, from every parser state, opens a message and drops a pending data byte: as BYTE_IN of it, which is R102's own,
and as the byte's row offered on its own, which is the model's choice (log 6). -/
def Obligations.StatusByteOpensMessage : Prop :=
  ∀ s : State, s.block.evq.length ≠ 32 →
    let opens := fun (x : Byte) =>
      (Host.Outcome.next { s with block := { s.block with pst := .expectingData1 x }, resp := .accepted } :
        Host.Outcome State Fault Refusal)
    exec .byteStatusNoteoff s = opens 0x80#8 ∧ exec .byteStatusNoteon s = opens 0x90#8 ∧
    exec .byteStatusA0 s = opens 0xA0#8 ∧ exec .byteStatusB0 s = opens 0xB0#8 ∧ exec .byteStatusC0 s = opens 0xC0#8 ∧
    exec .byteStatusD0 s = opens 0xD0#8 ∧ exec .byteStatusPitchbend s = opens 0xE0#8 ∧ exec .byteStatusF0 s = opens 0xF0#8 ∧
    (∀ b, exec (.byteStatusCh1 b) s = opens b) ∧ (∀ b, exec (.byteStatusCh2to3 b) s = opens b) ∧
    (∀ b, exec (.byteStatusCh4to7 b) s = opens b) ∧ (∀ b, exec (.byteStatusCh8to15T8toB b) s = opens b) ∧
    (∀ b, exec (.byteStatusCh8to15TCtoD b) s = opens b) ∧ (∀ b, exec (.byteStatusCh8to15TE b) s = opens b) ∧
    (∀ b : Byte, 0x80 ≤ b.toNat → b.toNat ≤ 0xF7 → exec (.byteIn b) s = opens b)

/-- A real-time byte is accepted and changes nothing, PST included: as BYTE_IN of it, which is R101's own, and as the byte's row
offered on its own, which is the model's choice (log 6). -/
def Obligations.RealTimeByteChangesNothing : Prop :=
  ∀ (b : Byte) (s : State), s.block.evq.length ≠ 32 →
    exec (.byteRealtime b) s = .next { s with resp := .accepted } ∧
    (0xF8 ≤ b.toNat → exec (.byteIn b) s = .next { s with resp := .accepted })

/-- A data byte that completes no message: dropped before any status, and kept as data1 after one; as BYTE_IN of it, and as the
byte's row offered on its own, which is the model's choice (log 6). -/
def Obligations.DataByteDroppedOrKept : Prop :=
  ∀ (v : Data7) (s : State), s.block.evq.length ≠ 32 →
    (s.block.pst = .waitingStatus →
      exec (.byteData v) s = .next { s with resp := .accepted } ∧
      exec (.byteIn (v.setWidth 8)) s = .next { s with resp := .accepted }) ∧
    (∀ st, s.block.pst = .expectingData1 st →
      exec (.byteData v) s =
        .next { s with block := { s.block with pst := .expectingData2 st v }, resp := .accepted } ∧
      exec (.byteIn (v.setWidth 8)) s =
        .next { s with block := { s.block with pst := .expectingData2 st v }, resp := .accepted })

/-- A second data byte completes its message: PST returns to data1 of the same status, and the message's own row then runs. It
holds of BYTE_IN of the byte, and of the byte's row offered on its own, which is the model's choice (log 6), as is a message's
row offered on its own. -/
def Obligations.DataByteCompletesItsMessage : Prop :=
  ∀ (st : Byte) (d1 d2 : Data7) (s : State), s.block.evq.length ≠ 32 → isStatus st = true →
    s.block.pst = .expectingData2 st d1 →
    exec (.byteIn (d2.setWidth 8)) s =
      exec (decodeMessage st d1 d2) { s with block := { s.block with pst := .expectingData1 st } } ∧
    exec (.byteData d2) s =
      exec (decodeMessage st d1 d2) { s with block := { s.block with pst := .expectingData1 st } }

/-- The effects of the six messages: a NoteOn or NoteOff event at the tail of EVQ with mid as it is now, the PITCHBEND register,
or nothing. That a message can be offered on its own, and then is accepted like the byte that completes it, is the model's
choice (log 6). -/
def Obligations.MessageEffects : Prop :=
  ∀ s : State, s.block.evq.length ≠ 32 →
    let queued := fun (e : Event) =>
      (Host.Outcome.next { s with
          block := { s.block with evq := s.block.evq ++ [{ event := e, mid := decide (s.block.samplePos ≠ 0#9) }] }
          resp := .accepted } : Host.Outcome State Fault Refusal)
    (∀ d1, exec (.msgNoteonVel0 d1) s = queued (.noteOff d1)) ∧
    (∀ d1 d2, d2 ≠ 0#7 → exec (.msgNoteon d1 d2) s = queued (.noteOn d1)) ∧
    (∀ d1 d2, exec (.msgNoteoff d1 d2) s = queued (.noteOff d1)) ∧
    (∀ d1 d2, exec (.msgPitchbend d1 d2) s =
      .next { s with
        block := { s.block with pitchBend := bendOf (BitVec.ofNat 14 (d2.toNat * 128 + d1.toNat)) }, resp := .accepted }) ∧
    (∀ st d1 d2, exec (.msgOtherChannel st d1 d2) s = .next { s with resp := .accepted }) ∧
    (∀ st d1 d2, exec (.msgUnrecognized st d1 d2) s = .next { s with resp := .accepted })

/-- The bend of v is exactly (v - 8192)/8192 and lies in [-1, 8191/8192]. -/
def Obligations.BendIsExact : Prop :=
  ∀ v : BitVec 14, Num32.isFinite (bendOf v) = true ∧
    Num32.toUnits (bendOf v) * 8192 = ((v.toNat : Int) - 8192) * 2 ^ 149 ∧
    Num32.le (Num32.ofInt (-1)) (bendOf v) = true ∧ Num32.lt (bendOf v) Num32.one = true

/-- A note message in full form and, after it, one in running form: each puts one event at the tail, from every parser state;
velocity 0 puts a NoteOff. -/
def Obligations.NoteMessagesFullAndRunning : Prop :=
  ∀ (s : State) (n n' vel : Data7), s.block.evq.length < 31 → vel ≠ 0#7 →
    ∃ t1 t2 t3 t4 t5 : State,
      exec (.byteIn 0x90#8) s = .next t1 ∧ exec (.byteIn (n.setWidth 8)) t1 = .next t2 ∧
      exec (.byteIn (vel.setWidth 8)) t2 = .next t3 ∧ exec (.byteIn (n'.setWidth 8)) t3 = .next t4 ∧
      exec (.byteIn 0x00#8) t4 = .next t5 ∧
      t5 = { s with
        block := { s.block with
          pst := .expectingData1 0x90#8
          evq := s.block.evq ++
            [{ event := .noteOn n, mid := decide (s.block.samplePos ≠ 0#9) },
             { event := .noteOff n', mid := decide (s.block.samplePos ≠ 0#9) }] }
        resp := .accepted }

/-! ## The register port -/

/-- A write to a numeric parameter stores the word clamped into [0, 1]; a write to WAVEFORM stores it unchanged. -/
def Obligations.WritesStoreTheirWord : Prop :=
  ∀ (d : Word) (s : State),
    exec (.wrCutoff d) s = .next { s with block := { s.block with cutoff := storedUnit d }, resp := .none } ∧
    exec (.wrResonance d) s = .next { s with block := { s.block with resonance := storedUnit d }, resp := .none } ∧
    exec (.wrAttack d) s = .next { s with block := { s.block with attack := storedUnit d }, resp := .none } ∧
    exec (.wrDecay d) s = .next { s with block := { s.block with decay := storedUnit d }, resp := .none } ∧
    exec (.wrSustain d) s = .next { s with block := { s.block with sustain := storedUnit d }, resp := .none } ∧
    exec (.wrRelease d) s = .next { s with block := { s.block with release := storedUnit d }, resp := .none } ∧
    exec (.wrWaveform d) s = .next { s with block := { s.block with waveform := d }, resp := .none }

/-- Writes to read-only and reserved addresses, and reserved transaction kinds, have no effect and no response. -/
def Obligations.IgnoredWritesAndReservedKindsDoNothing : Prop :=
  ∀ (a : Byte) (d : Word) (k : BitVec 4) (s : State),
    exec (.wrIgnored07 d) s = .next { s with resp := .none } ∧
    exec (.wrIgnored08to0F a d) s = .next { s with resp := .none } ∧
    exec (.wrIgnored10to1F a d) s = .next { s with resp := .none } ∧
    exec (.wrIgnored20to3F a d) s = .next { s with resp := .none } ∧
    exec (.wrIgnored40to7F a d) s = .next { s with resp := .none } ∧
    exec (.wrIgnored80toFF a d) s = .next { s with resp := .none } ∧
    (0x07 ≤ a.toNat → exec (decodeWrite a d) s = .next { s with resp := .none }) ∧
    exec .txnReserved0 s = .next { s with resp := .none } ∧ exec .txnReserved5 s = .next { s with resp := .none } ∧
    exec (.txnReserved6to7 k) s = .next { s with resp := .none } ∧
    exec (.txnReserved8toB k) s = .next { s with resp := .none } ∧
    exec (.txnReservedCtoD k) s = .next { s with resp := .none } ∧
    exec .txnReservedE s = .next { s with resp := .none } ∧
    (∀ w : TxnWord, txnKind w = 0#4 ∨ (5 ≤ (txnKind w).toNat ∧ (txnKind w).toNat ≤ 14) →
      exec (decodeTxn w) s = .next { s with resp := .none })

/-- Each read answers its register as stored, a reserved address 0, and changes nothing else. -/
def Obligations.ReadsAnswerTheirRegister : Prop :=
  ∀ (a : Byte) (s : State),
    exec .rdCutoff s = .next { s with resp := .word s.block.cutoff } ∧
    exec .rdResonance s = .next { s with resp := .word s.block.resonance } ∧
    exec .rdAttack s = .next { s with resp := .word s.block.attack } ∧
    exec .rdDecay s = .next { s with resp := .word s.block.decay } ∧
    exec .rdSustain s = .next { s with resp := .word s.block.sustain } ∧
    exec .rdRelease s = .next { s with resp := .word s.block.release } ∧
    exec .rdWaveform s = .next { s with resp := .word s.block.waveform } ∧
    exec .rdPitchbend s = .next { s with resp := .word s.block.pitchBend } ∧
    exec .rdStatus0 s = .next { s with resp := .word (status0 s.block) } ∧
    exec .rdStatus1 s = .next { s with resp := .word (status1 Config.hw s.block) } ∧
    (∀ i, exec (.rdVoice i .vstate) s = .next { s with resp := .word (vstateWord (s.block.voices.get i)) }) ∧
    (∀ i, exec (.rdVoice i .vlevel) s = .next { s with resp := .word (s.block.voices.get i).level }) ∧
    (∀ i, exec (.rdVoice i .vphase) s = .next { s with resp := .word (s.block.voices.get i).phase }) ∧
    (∀ i, exec (.rdVoice i .vz) s = .next { s with resp := .word (s.block.voices.get i).z }) ∧
    exec (.rdReserved0Ato0B a) s = .next { s with resp := .word 0#32 } ∧
    exec (.rdReserved0Cto0F a) s = .next { s with resp := .word 0#32 } ∧
    exec (.rdReserved20to3F a) s = .next { s with resp := .word 0#32 } ∧
    exec (.rdReserved40to7F a) s = .next { s with resp := .word 0#32 } ∧
    exec (.rdReserved80toFF a) s = .next { s with resp := .word 0#32 }

/-- Every address reads as the register map says. -/
def Obligations.ReadFollowsTheMap : Prop :=
  ∀ (a : Byte) (s : State), exec (decodeRead a) s = .next { s with resp := .word (regRead Config.hw s.block a) }

/-- Read after write over the register space: a parameter reads back clamped, WAVEFORM as written, every other address as
before; and writing the same word again leaves the same state. -/
def Obligations.ReadAfterWrite : Prop :=
  ∀ (a : Byte) (d : Word) (s : State), ∃ t : State, exec (decodeWrite a d) s = .next t ∧
    (a.toNat ≤ 0x05 → regRead Config.hw t.block a = storedUnit d) ∧
    (a = 0x06#8 → regRead Config.hw t.block a = d) ∧
    (0x07 ≤ a.toNat → regRead Config.hw t.block a = regRead Config.hw s.block a) ∧
    (∀ x : Byte, x ≠ a → regRead Config.hw t.block x = regRead Config.hw s.block x) ∧
    exec (decodeWrite a d) t = .next t

/-- The fields of STATUS0 and STATUS1, and of VSTATE of every voice, with the codes they show: Idle 0, Attack 1, Decay 2,
Sustain 3, Release 4; PSTATE 0, 1, 2; RSTATUS 0x00 in WaitingStatus and otherwise the status; DATA1 0 outside ExpectingData2. -/
def Obligations.StatusAndVoiceViewFields : Prop :=
  (envCode .idle = 0#3 ∧ envCode .attack = 1#3 ∧ envCode .decay = 2#3 ∧ envCode .sustain = 3#3 ∧ envCode .release = 4#3) ∧
  (pstCode .waitingStatus = 0#2 ∧ pstStatus .waitingStatus = 0x00#8 ∧ pstData1 .waitingStatus = 0#7) ∧
  (∀ st : Byte, pstCode (.expectingData1 st) = 1#2 ∧ pstStatus (.expectingData1 st) = st ∧
    pstData1 (.expectingData1 st) = 0#7) ∧
  (∀ (st : Byte) (d1 : Data7), pstCode (.expectingData2 st d1) = 2#2 ∧ pstStatus (.expectingData2 st d1) = st ∧
    pstData1 (.expectingData2 st d1) = d1) ∧
  (∀ v : Voice, (vstateWord v).extractLsb' 0 7 = v.note ∧ (vstateWord v).getLsbD 7 = decide (v.env ≠ .idle) ∧
    (vstateWord v).extractLsb' 8 3 = envCode v.env ∧ (vstateWord v).extractLsb' 11 21 = 0#21 ∧
    (envCode v.env).toNat ≤ 4) ∧
  ∀ b : Block,
    (∀ i : Fin 4, (status0 b).getLsbD i.val = decide ((b.voices.get i).env ≠ .idle)) ∧
    ((status0 b).extractLsb' 4 2).toNat = b.cursor.val ∧
    (status0 b).extractLsb' 6 2 = pstCode b.pst ∧ (status0 b).extractLsb' 8 8 = pstStatus b.pst ∧
    (status0 b).extractLsb' 16 7 = pstData1 b.pst ∧ (status0 b).extractLsb' 23 9 = 0#9 ∧
    (status1 Config.hw b).extractLsb' 0 9 = b.samplePos ∧ (status1 Config.hw b).extractLsb' 9 7 = 0#7 ∧
    (b.evq.length ≤ 63 → ((status1 Config.hw b).extractLsb' 16 6).toNat = b.evq.length) ∧
    (status1 Config.hw b).getLsbD 22 = decide (b.evq.length = 32) ∧ (status1 Config.hw b).extractLsb' 23 9 = 0#9

/-! ## Reset -/

/-- RESET gives every element of the block's state its reset value, the parameters RESET_PARAMS through the write clamp. -/
def Obligations.ResetSetsEveryElement : Prop :=
  ∀ s : State, ∃ t : State, exec .reset s = .next t ∧ t = { s with block := t.block, resp := .none } ∧
    t.block.pst = .waitingStatus ∧
    (∀ i, t.block.voices.get i =
      { note := 0#7, env := .idle, level := 0x00000000#32, phase := 0x00000000#32, z := 0x00000000#32 }) ∧
    t.block.cursor = 0 ∧
    t.block.cutoff = storedUnit Config.hw.resetParams.cutoff ∧
    t.block.resonance = storedUnit Config.hw.resetParams.resonance ∧
    t.block.attack = storedUnit Config.hw.resetParams.attack ∧
    t.block.decay = storedUnit Config.hw.resetParams.decay ∧
    t.block.sustain = storedUnit Config.hw.resetParams.sustain ∧
    t.block.release = storedUnit Config.hw.resetParams.release ∧
    t.block.waveform = Config.hw.resetParams.waveform ∧
    t.block.pitchBend = 0x00000000#32 ∧ t.block.wfLatch = 0#32 ∧ t.block.pbLatch = 0x00000000#32 ∧
    t.block.samplePos = 0#9 ∧ t.block.evq = []

/-- Power-on equals the state after RESET, from whatever state, and RESET twice equals RESET. -/
def Obligations.PowerOnIsTheStateAfterReset : Prop :=
  ∀ s : State, ∃ t : State, exec .reset s = .next t ∧ t.block = State.reset.block ∧ exec .reset t = .next t

/-- The reset state is legal; the bound 4 of Legal for a filter state is the model's own (log 17). -/
def Obligations.ResetStateIsLegal : Prop := Legal State.reset.block

/-- After reset STATUS0, STATUS1, PITCHBEND and every voice view read 0, and a tick answers 0. -/
def Obligations.ResetStateReadsZero : Prop :=
  status0 State.reset.block = 0#32 ∧ status1 Config.hw State.reset.block = 0#32 ∧
  regRead Config.hw State.reset.block 0x07#8 = 0#32 ∧
  (∀ a : Byte, 0x10 ≤ a.toNat → a.toNat ≤ 0x1F → regRead Config.hw State.reset.block a = 0#32) ∧
  ∃ t : State, exec .sampleTick State.reset = .next t ∧ t.resp = .word 0#32 ∧
    t.block = { State.reset.block with
      samplePos := 1#9, wfLatch := State.reset.block.waveform, pbLatch := State.reset.block.pitchBend }

/-! ## The tick -/

/-- SAMPLE_TICK completes in every state: the active voices are processed in slot order, the mix is their sum from +0.0 in that
order, SAMPLE_POS advances, and nothing else changes but what the block start changed. -/
def Obligations.TickProcessesTheActiveVoices : Prop :=
  ∀ s : State, ∃ t : State, exec .sampleTick s = .next t ∧
    (∀ i, t.block.voices.get i = voiceAfter (tickStart s) i) ∧
    t.resp = .word (mixAfter (tickStart s) 3 (mixAfter (tickStart s) 2 (mixAfter (tickStart s) 1
      (mixAfter (tickStart s) 0 Num32.zero)))) ∧
    t.block.samplePos.toNat = (s.block.samplePos.toNat + 1) % 512 ∧
    t = { s with
      block := { tickStart s with voices := t.block.voices, samplePos := t.block.samplePos }, resp := t.resp }

/-- Inside a block a tick starts from the block as it is. At a block start it first applies every queued event in the order of
acceptance, empties EVQ, and then latches WAVEFORM and PITCHBEND. -/
def Obligations.BlockStartDrainsThenLatches : Prop :=
  ∀ s : State,
    (s.block.samplePos ≠ 0#9 → tickStart s = s.block) ∧
    (s.block.samplePos = 0#9 →
      let b := (s.block.evq.map Entry.event).foldl (fun b e => applyEvent e b) { s.block with evq := [] }
      tickStart s = { b with wfLatch := s.block.waveform, pbLatch := s.block.pitchBend } ∧ (tickStart s).evq = [])

/-- A NoteOn takes the slot at the cursor whatever it holds, and advances the cursor; the other slots keep. -/
def Obligations.NoteOnTakesTheSlotAtTheCursor : Prop :=
  ∀ (n : Data7) (b : Block),
    (applyEvent (.noteOn n) b).voices.get b.cursor =
      { note := n, env := .attack, level := 0x00000000#32, phase := 0x00000000#32, z := 0x00000000#32 } ∧
    (∀ i, i ≠ b.cursor → (applyEvent (.noteOn n) b).voices.get i = b.voices.get i) ∧
    (applyEvent (.noteOn n) b).cursor.val = (b.cursor.val + 1) % 4 ∧
    applyEvent (.noteOn n) b =
      { b with voices := (applyEvent (.noteOn n) b).voices, cursor := (applyEvent (.noteOn n) b).cursor }

/-- A NoteOff releases every active voice with its note, levels unchanged, and touches nothing else. -/
def Obligations.NoteOffReleasesEveryMatchingVoice : Prop :=
  ∀ (n : Data7) (b : Block),
    (∀ i, (applyEvent (.noteOff n) b).voices.get i =
      if (b.voices.get i).env ≠ .idle ∧ (b.voices.get i).note = n then { b.voices.get i with env := .release }
      else b.voices.get i) ∧
    applyEvent (.noteOff n) b = { b with voices := (applyEvent (.noteOff n) b).voices }

/-- A voice in Attack, in a tick: the level rises by 1/(aT*R), and reaching 1.0 it is 1.0 and in Decay. -/
def Obligations.AttackTick : Prop :=
  ∀ (s : State) (i : Fin 4), ((tickStart s).voices.get i).env = .attack →
    ∃ t : State, exec .sampleTick s = .next t ∧
      let v := (tickStart s).voices.get i
      let v' := t.block.voices.get i
      let aT := Num32.clamp (tickStart s).attack (Num32.ofDec 1 1000) Num32.one
      let x := Num32.add v.level (Num32.div Num32.one (Num32.mul aT (Num32.ofInt 44100)))
      v'.note = v.note ∧
      (Num32.le Num32.one x = true → v'.level = Num32.one ∧ v'.env = .decay) ∧
      (Num32.le Num32.one x = false → v'.level = x ∧ v'.env = .attack)

/-- A voice in Decay, in a tick: the level falls by (1-S)/(dT*R), and at or below S it is S and in Sustain. -/
def Obligations.DecayTick : Prop :=
  ∀ (s : State) (i : Fin 4), ((tickStart s).voices.get i).env = .decay →
    ∃ t : State, exec .sampleTick s = .next t ∧
      let v := (tickStart s).voices.get i
      let v' := t.block.voices.get i
      let dT := Num32.clamp (tickStart s).decay (Num32.ofDec 1 1000) Num32.one
      let S := Num32.clamp (tickStart s).sustain Num32.zero Num32.one
      let x := Num32.sub v.level (Num32.div (Num32.sub Num32.one S) (Num32.mul dT (Num32.ofInt 44100)))
      v'.note = v.note ∧
      (Num32.le x S = true → v'.level = S ∧ v'.env = .sustain) ∧
      (Num32.le x S = false → v'.level = x ∧ v'.env = .decay)

/-- A voice in Sustain, in a tick: level and state are held. -/
def Obligations.SustainTick : Prop :=
  ∀ (s : State) (i : Fin 4), ((tickStart s).voices.get i).env = .sustain →
    ∃ t : State, exec .sampleTick s = .next t ∧
      (t.block.voices.get i).level = ((tickStart s).voices.get i).level ∧ (t.block.voices.get i).env = .sustain ∧
      (t.block.voices.get i).note = ((tickStart s).voices.get i).note

/-- A voice in Release, in a tick: the level falls by S/(rT*R), and at or below 0.0 it is 0.0 and Idle. -/
def Obligations.ReleaseTick : Prop :=
  ∀ (s : State) (i : Fin 4), ((tickStart s).voices.get i).env = .release →
    ∃ t : State, exec .sampleTick s = .next t ∧
      let v := (tickStart s).voices.get i
      let v' := t.block.voices.get i
      let rT := Num32.clamp (tickStart s).release (Num32.ofDec 1 1000) Num32.one
      let S := Num32.clamp (tickStart s).sustain Num32.zero Num32.one
      let x := Num32.sub v.level (Num32.div S (Num32.mul rT (Num32.ofInt 44100)))
      v'.note = v.note ∧
      (Num32.le x Num32.zero = true → v'.level = Num32.zero ∧ v'.env = .idle) ∧
      (Num32.le x Num32.zero = false → v'.level = x ∧ v'.env = .release)

/-- The waveforms: value and gain by the latched code, the gains at the words the spec lists, and (0.0, 0.0) for every code from 4
on. The word of TWO_PI is the spec's own general knowledge (R7, log 13). -/
def Obligations.WaveformsAndGains : Prop :=
  ∀ p : Num32,
    osc Config.hw 0#32 p = { value := Config.hw.sin (Num32.mul 0x40C90FDB#32 p), gain := 0x40066666#32 } ∧
    osc Config.hw 1#32 p =
      { value := if Num32.lt p 0x3F000000#32 then 0x3F800000#32 else 0xBF800000#32, gain := 0x3F800000#32 } ∧
    osc Config.hw 2#32 p =
      { value :=
          if Num32.lt p 0x3F000000#32 then Num32.add 0xBF800000#32 (Num32.mul 0x40800000#32 p)
          else Num32.sub 0x40400000#32 (Num32.mul 0x40800000#32 p)
        gain := 0x4019999A#32 } ∧
    osc Config.hw 3#32 p =
      { value := Num32.sub (Num32.mul 0x40000000#32 p) 0x3F800000#32, gain := 0x3F99999A#32 } ∧
    (∀ w : Word, 4 ≤ w.toNat → osc Config.hw w p = { value := 0#32, gain := 0#32 })

/-- What the pipeline of an active voice leaves in its filter state and phase: the filter over (v * level) * g with the level
after this tick's step, the phase advanced by (FREQ * pm) / R and wrapped; an inactive voice is skipped. -/
def Obligations.VoicePipelineTick : Prop :=
  ∀ (s : State) (i : Fin 4),
    ∃ t : State, exec .sampleTick s = .next t ∧
      let b := tickStart s
      let v := b.voices.get i
      let v' := t.block.voices.get i
      let o := osc Config.hw b.wfLatch v.phase
      let c := Num32.clamp b.cutoff (Num32.ofDec 1 100) Num32.one
      let r := Num32.clamp b.resonance Num32.zero (Num32.ofDec 95 100)
      let x := Num32.mul (Num32.mul o.value v'.level) o.gain
      let z1 := Num32.add v.z (Num32.mul c (Num32.sub x v.z))
      let pm := Config.hw.exp2 (Num32.div (Num32.mul b.pbLatch (Num32.ofInt 2)) (Num32.ofInt 12))
      let f := Num32.mul (Num32.ofInt 440)
        (Config.hw.exp2 (Num32.div (Num32.ofInt ((v.note.toNat : Int) - 69)) (Num32.ofInt 12)))
      let p := Num32.add v.phase (Num32.div (Num32.mul f pm) (Num32.ofInt 44100))
      (v.env ≠ .idle →
        v'.z = Num32.sub z1 (Num32.mul r z1) ∧ v'.phase = Num32.sub p (Num32.floor p)) ∧
      (v.env = .idle → v' = v)

/-- FREQ(69) is exactly 440.0, FREQ is strictly increasing over the 128 notes, and the centre bend multiplies by exactly 1.0. -/
def Obligations.FrequencyAndPitchProperties : Prop :=
  freq Config.hw 69#7 = 0x43DC0000#32 ∧
  (∀ m n : Data7, m.toNat < n.toNat → Num32.lt (freq Config.hw m) (freq Config.hw n) = true) ∧
  pitchMul Config.hw (bendOf 8192#14) = Num32.one

/-- Inside a block a tick sees neither the queued events nor a change of WAVEFORM or PITCHBEND: voices, cursor and mix are the
same whatever those three hold. -/
def Obligations.MidBlockTickIgnoresWhatWaits : Prop :=
  ∀ (s : State) (w : Word) (p : Num32) (q : List Entry), s.block.samplePos ≠ 0#9 →
    ∃ t u : State, exec .sampleTick s = .next t ∧
      exec .sampleTick { s with block := { s.block with waveform := w, pitchBend := p, evq := q } } = .next u ∧
      u.resp = t.resp ∧ u.block = { t.block with waveform := w, pitchBend := p, evq := q }

/-- Event latency: queued events wait exactly until the ((512 - p) mod 512) + 1-th following tick, which empties EVQ. -/
def Obligations.EventLatency : Prop :=
  ∀ b : Block,
    (∀ j, j ≤ (512 - b.samplePos.toNat) % 512 → (tickBlock^[j] b).evq = b.evq) ∧
    (tickBlock^[(512 - b.samplePos.toNat) % 512 + 1] b).evq = []

/-- A NoteOn and a NoteOff of one note applied at the same block start: after that tick the slot is Idle at level 0.0, the note
kept and the cursor advanced. -/
def Obligations.NoteOnThenOffGoesIdleInOneTick : Prop :=
  ∀ (b : Block) (n : Data7) (m m' : Bool), b.samplePos = 0#9 →
    b.evq = [{ event := .noteOn n, mid := m }, { event := .noteOff n, mid := m' }] →
    ((tickBlock b).voices.get b.cursor).env = .idle ∧ ((tickBlock b).voices.get b.cursor).level = Num32.zero ∧
    ((tickBlock b).voices.get b.cursor).note = n ∧ (tickBlock b).cursor.val = (b.cursor.val + 1) % 4

/-- Which instructions write which element: the voices, CURSOR, the latches and SAMPLE_POS only a tick; PST and PITCHBEND only the
byte stream; EVQ only these two; the parameters only a REG_WRITE; and RESET everything. -/
def Obligations.WhoWritesWhat : Prop :=
  ∀ (i : Instr) (s t : State), exec i s = .next t → i ≠ .reset →
    (i ≠ .sampleTick →
      t.block.voices = s.block.voices ∧ t.block.cursor = s.block.cursor ∧ t.block.wfLatch = s.block.wfLatch ∧
      t.block.pbLatch = s.block.pbLatch ∧ t.block.samplePos = s.block.samplePos) ∧
    (isStream i = false → t.block.pst = s.block.pst ∧ t.block.pitchBend = s.block.pitchBend) ∧
    (isStream i = false → i ≠ .sampleTick → t.block.evq = s.block.evq) ∧
    (isParamWrite i = false →
      (∀ p, getParam p t.block = getParam p s.block) ∧ t.block.waveform = s.block.waveform)

/-- LEGACY_RACE, which this hardware sets false: an entry completed outside a block is applied; one completed inside a block is
applied if its draw says so, and otherwise a NoteOn leaves at most the cursor's advance and a NoteOff nothing. -/
def Obligations.LegacyRaceDrain : Prop :=
  ∀ (c : Config) (b : Block) (k : Nat) (e : Event), c.legacyRace = true →
    drainEntry c { block := b, draws := k } { event := e, mid := false } = { block := applyEvent e b, draws := k } ∧
    (c.draw k = true →
      drainEntry c { block := b, draws := k } { event := e, mid := true } = { block := applyEvent e b, draws := k + 1 }) ∧
    (c.draw k = false → ∀ n, e = .noteOff n →
      drainEntry c { block := b, draws := k } { event := e, mid := true } = { block := b, draws := k + 1 }) ∧
    (c.draw k = false → ∀ n, e = .noteOn n →
      drainEntry c { block := b, draws := k } { event := e, mid := true } =
        { block := if c.draw (k + 1) then { b with cursor := Fin.ofNat 4 (b.cursor.val + 1) } else b, draws := k + 2 })

/-! ## Invariants of every step -/

/-- No step leaves PST outside its three states with a status in 0x80..0xF7, overfills EVQ, or leaves a numeric parameter
outside [0, 1]; each of the three holds on its own. -/
def Obligations.StepKeepsParserQueueAndParameters : Prop :=
  ∀ s t : State, step s = .next t →
    (ParserOk s.block → ParserOk t.block) ∧ (QueueOk s.block → QueueOk t.block) ∧
    (ParamsOk s.block → ParamsOk t.block)

/-- No step leaves a level outside [0, 1], whatever the parameters hold, and an Idle voice's level stays 0.0. -/
def Obligations.StepKeepsTheLevelsInRange : Prop :=
  ∀ s t : State, LevelsOk s.block ∧ IdleOk s.block → step s = .next t → LevelsOk t.block ∧ IdleOk t.block

/-- No step leaves a phase outside [0, 1), or PITCHBEND or its latch at a value that is no bend, for every EXP2 with the named
properties. -/
def Obligations.StepKeepsThePhasesInRange : Prop :=
  ∀ s t : State, BendOk s.block ∧ PhasesOk s.block → step s = .next t → BendOk t.block ∧ PhasesOk t.block

/-- Every step keeps the block legal: parser, queue, parameters, bends, levels, Idle levels, phases and filter states. The bound
4 for a filter state is the model's own (log 17). -/
def Obligations.StepKeepsTheBlockLegal : Prop :=
  ∀ s t : State, Legal s.block → step s = .next t → Legal t.block

/-- From a legal state a tick answers a finite mix, of magnitude at most 16: no NaN and no infinity reaches the output. The bound
16, and the bound 4 of the premise for a filter state, are the model's own (log 17). -/
def Obligations.MixIsFiniteAndBounded : Prop :=
  ∀ s : State, Legal s.block → ∃ (t : State) (w : Word), exec .sampleTick s = .next t ∧ t.resp = .word w ∧
    Num32.le (Num32.ofInt (-16)) w = true ∧ Num32.le w (Num32.ofInt 16) = true

/-! ## Envelopes that end and that do not -/

/-- With SUSTAIN at least 2^-8 every release ends: while no event waits, ticks bring a released voice to Idle. -/
def Obligations.ReleaseEndsWhenSustainIsLargeEnough : Prop :=
  ∀ (b : Block) (i : Fin 4), b.evq = [] → (b.voices.get i).env = .release → inUnit (b.voices.get i).level →
    Num32.le (Num32.ofDec 1 256) b.sustain = true →
    ∃ k : Nat, ((tickBlock^[k] b).voices.get i).env = .idle

/-- Every attack ends: while no event waits, ticks bring a voice in Attack to Decay. -/
def Obligations.AttackEnds : Prop :=
  ∀ (b : Block) (i : Fin 4), b.evq = [] → (b.voices.get i).env = .attack → inUnit (b.voices.get i).level →
    ∃ k : Nat, ((tickBlock^[k] b).voices.get i).env = .decay

/-- With SUSTAIN equal to 0 a voice released at a level above 0 never ends: while no event waits, every tick leaves it in Release
at that level. -/
def Obligations.ReleaseNeverEndsWithZeroSustain : Prop :=
  ∀ (b : Block) (i : Fin 4), b.evq = [] → (b.voices.get i).env = .release →
    Num32.lt Num32.zero (b.voices.get i).level = true → Num32.eq b.sustain Num32.zero = true →
    ∀ k : Nat, ((tickBlock^[k] b).voices.get i).env = .release ∧
      ((tickBlock^[k] b).voices.get i).level = (b.voices.get i).level

/-! ## Numerics -/

/-- Every sum, difference, product and quotient of finite Nums (the divisor not zero) is the correctly rounded exact result. -/
def Obligations.ArithmeticIsCorrectlyRounded : Prop :=
  ∀ x y : Num32, Num32.isFinite x = true → Num32.isFinite y = true →
    CorrectlyRounded (Num32.add x y) (Num32.toUnits x + Num32.toUnits y) 1 ∧
    CorrectlyRounded (Num32.sub x y) (Num32.toUnits x - Num32.toUnits y) 1 ∧
    CorrectlyRounded (Num32.mul x y) (Num32.toUnits x * Num32.toUnits y) (2 ^ 149) ∧
    (Num32.toUnits y ≠ 0 →
      CorrectlyRounded (Num32.div x y) ((Num32.toUnits y).sign * Num32.toUnits x * 2 ^ 149) (Num32.toUnits y).natAbs)

/-- Comparisons of finite Nums compare their exact values, and a comparison with a NaN is false. -/
def Obligations.ComparisonsAreExact : Prop :=
  ∀ x y : Num32,
    (Num32.isFinite x = true → Num32.isFinite y = true →
      Num32.lt x y = decide (Num32.toUnits x < Num32.toUnits y) ∧
      Num32.le x y = decide (Num32.toUnits x ≤ Num32.toUnits y) ∧
      Num32.eq x y = decide (Num32.toUnits x = Num32.toUnits y) ∧
      Num32.gt x y = decide (Num32.toUnits y < Num32.toUnits x) ∧
      Num32.ge x y = decide (Num32.toUnits y ≤ Num32.toUnits x)) ∧
    (Num32.isNaN x = true ∨ Num32.isNaN y = true →
      Num32.lt x y = false ∧ Num32.le x y = false ∧ Num32.eq x y = false ∧ Num32.gt x y = false ∧ Num32.ge x y = false)

/-- clamp: a NaN, minus infinity and whatever is below lo maps to lo, plus infinity and whatever is above hi to hi, and what lies
between passes unchanged, -0.0 from 0 included; so the result lies between the bounds. -/
def Obligations.ClampStaysBetweenItsBounds : Prop :=
  ∀ x lo hi : Num32, Num32.isFinite lo = true → Num32.isFinite hi = true → Num32.le lo hi = true →
    (Num32.isNaN x = true → Num32.clamp x lo hi = lo) ∧
    (Num32.lt x lo = true → Num32.clamp x lo hi = lo) ∧ (Num32.lt hi x = true → Num32.clamp x lo hi = hi) ∧
    Num32.clamp (Num32.inf false) lo hi = hi ∧ Num32.clamp (Num32.inf true) lo hi = lo ∧
    (Num32.le lo x = true → Num32.le x hi = true → Num32.clamp x lo hi = x) ∧
    Num32.clamp 0x80000000#32 Num32.zero hi = (if Num32.le Num32.zero hi then 0x80000000#32 else hi) ∧
    Num32.le lo (Num32.clamp x lo hi) = true ∧ Num32.le (Num32.clamp x lo hi) hi = true

/-- toNum is exact for every integer of magnitude at most 2^24. -/
def Obligations.IntegersConvertExactly : Prop :=
  ∀ i : Int, |i| ≤ 2 ^ 24 → Num32.isFinite (Num32.ofInt i) = true ∧ Num32.toUnits (Num32.ofInt i) = i * 2 ^ 149

/-- The phase wrap `p - floor(p)` is exact for every finite p >= 0: the fractional part of p, in [0, 1). -/
def Obligations.PhaseWrapIsExact : Prop :=
  ∀ p : Num32, Num32.isFinite p = true → Num32.le Num32.zero p = true →
    Num32.isFinite (wrapPhase p) = true ∧ Num32.toUnits (wrapPhase p) = Num32.toUnits p % 2 ^ 149 ∧ inPhase (wrapPhase p)
end

