-- ==== Sys2Proof/Laws/Encoding.lean ====
section
/-! SUPPORT. The fields of the words the encoder writes, and how a row's mask sees them. -/

namespace Sys2Proof

@[simp] theorem txnKind_txnWord (k : BitVec 4) (a : Byte) (d : Word) : txnKind (txnWord k a d) = k := by
  apply BitVec.eq_of_getLsbD_eq
  intro i hi
  simp only [txnKind, txnWord, BitVec.getLsbD_extractLsb', BitVec.getLsbD_or, BitVec.getLsbD_shiftLeft, BitVec.getLsbD_setWidth]
  interval_cases i <;> simp

@[simp] theorem txnA_txnWord (k : BitVec 4) (a : Byte) (d : Word) : txnA (txnWord k a d) = a := by
  apply BitVec.eq_of_getLsbD_eq
  intro i hi
  simp only [txnA, txnWord, BitVec.getLsbD_extractLsb', BitVec.getLsbD_or, BitVec.getLsbD_shiftLeft, BitVec.getLsbD_setWidth]
  interval_cases i <;> simp

@[simp] theorem txnData_txnWord (k : BitVec 4) (a : Byte) (d : Word) : txnData (txnWord k a d) = d := by
  apply BitVec.eq_of_getLsbD_eq
  intro i hi
  simp only [txnData, txnWord, BitVec.getLsbD_extractLsb', BitVec.getLsbD_or, BitVec.getLsbD_shiftLeft, BitVec.getLsbD_setWidth]
  interval_cases i <;> simp

@[simp] theorem msgStatus_msgWord (s : Byte) (d1 d2 : Data7) : msgStatus (msgWord s d1 d2) = s := by
  apply BitVec.eq_of_getLsbD_eq
  intro i hi
  simp only [msgStatus, msgWord, BitVec.getLsbD_extractLsb', BitVec.getLsbD_or, BitVec.getLsbD_shiftLeft, BitVec.getLsbD_setWidth]
  interval_cases i <;> simp

@[simp] theorem msgD1_msgWord (s : Byte) (d1 d2 : Data7) : msgD1 (msgWord s d1 d2) = d1.setWidth 8 := by
  apply BitVec.eq_of_getLsbD_eq
  intro i hi
  simp only [msgD1, msgWord, BitVec.getLsbD_extractLsb', BitVec.getLsbD_or, BitVec.getLsbD_shiftLeft, BitVec.getLsbD_setWidth]
  interval_cases i <;> simp

@[simp] theorem msgD2_msgWord (s : Byte) (d1 d2 : Data7) : msgD2 (msgWord s d1 d2) = d2.setWidth 8 := by
  apply BitVec.eq_of_getLsbD_eq
  intro i hi
  simp only [msgD2, msgWord, BitVec.getLsbD_extractLsb', BitVec.getLsbD_or, BitVec.getLsbD_shiftLeft, BitVec.getLsbD_setWidth]
  interval_cases i <;> simp

/-- A transaction word as a number: KIND and A above the 32 bits of DATA. -/
theorem txnWord_toNat (k : BitVec 4) (a : Byte) (d : Word) :
    (txnWord k a d).toNat = (k.toNat * 256 + a.toNat) * 2 ^ 32 + d.toNat := by
  have hk := k.isLt
  have ha := a.isLt
  have hd := d.isLt
  have h1 : (k.toNat <<< 40 ||| a.toNat <<< 32) = (k.toNat <<< 8 ||| a.toNat) <<< 32 := by
    rw [Nat.shiftLeft_or_distrib, ← Nat.shiftLeft_add]
  have h2 : k.toNat <<< 8 ||| a.toNat = k.toNat * 256 + a.toNat := by
    rw [← Nat.shiftLeft_add_eq_or_of_lt ha, Nat.shiftLeft_eq]
  have h3 : (k.toNat * 256 + a.toNat) <<< 32 ||| d.toNat = (k.toNat * 256 + a.toNat) * 2 ^ 32 + d.toNat := by
    rw [← Nat.shiftLeft_add_eq_or_of_lt hd, Nat.shiftLeft_eq]
  simp only [txnWord, BitVec.toNat_or, BitVec.toNat_shiftLeft, BitVec.toNat_setWidth]
  rw [Nat.mod_eq_of_lt (show k.toNat < 2 ^ 44 by omega), Nat.mod_eq_of_lt (show a.toNat < 2 ^ 44 by omega),
    Nat.mod_eq_of_lt (show d.toNat < 2 ^ 44 by omega),
    Nat.mod_eq_of_lt (show k.toNat <<< 40 < 2 ^ 44 by rw [Nat.shiftLeft_eq]; omega),
    Nat.mod_eq_of_lt (show a.toNat <<< 32 < 2 ^ 44 by rw [Nat.shiftLeft_eq]; omega), h1, h2, h3]

/-- A message word as a number: the status above the two data bytes. -/
theorem msgWord_toNat (s : Byte) (d1 d2 : Data7) :
    (msgWord s d1 d2).toNat = s.toNat * 2 ^ 16 + (d1.toNat * 256 + d2.toNat) := by
  have hs := s.isLt
  have h1 := d1.isLt
  have h2 := d2.isLt
  have e1 : d1.toNat <<< 8 ||| d2.toNat = d1.toNat * 256 + d2.toNat := by
    rw [← Nat.shiftLeft_add_eq_or_of_lt (by omega), Nat.shiftLeft_eq]
  have e2 : s.toNat <<< 16 ||| (d1.toNat * 256 + d2.toNat) = s.toNat * 2 ^ 16 + (d1.toNat * 256 + d2.toNat) := by
    rw [← Nat.shiftLeft_add_eq_or_of_lt (by omega), Nat.shiftLeft_eq]
  simp only [msgWord, BitVec.toNat_or, BitVec.toNat_shiftLeft, BitVec.toNat_setWidth]
  rw [Nat.mod_eq_of_lt (show s.toNat < 2 ^ 24 by omega), Nat.mod_eq_of_lt (show d1.toNat < 2 ^ 24 by omega),
    Nat.mod_eq_of_lt (show d2.toNat < 2 ^ 24 by omega),
    Nat.mod_eq_of_lt (show s.toNat <<< 16 < 2 ^ 24 by rw [Nat.shiftLeft_eq]; omega),
    Nat.mod_eq_of_lt (show d1.toNat <<< 8 < 2 ^ 24 by rw [Nat.shiftLeft_eq]; omega), Nat.or_assoc, e1, e2]

/-- A mask that looks only above bit `n` sees only the high part. -/
theorem and_high (t r m n : Nat) (h : r < 2 ^ n) : (t * 2 ^ n + r) &&& (m * 2 ^ n) = (t &&& m) * 2 ^ n := by
  rw [← Nat.shiftLeft_eq, ← Nat.shiftLeft_eq, ← Nat.shiftLeft_eq, Nat.shiftLeft_add_eq_or_of_lt h, Nat.and_or_distrib_right,
    ← Nat.shiftLeft_and_distrib]
  have h0 : r &&& m <<< n = 0 := by
    apply Nat.eq_of_testBit_eq
    intro i
    rw [Nat.testBit_and, Nat.testBit_shiftLeft, Nat.zero_testBit]
    by_cases hi : n ≤ i
    · rw [Nat.testBit_lt_two_pow (lt_of_lt_of_le h (Nat.pow_le_pow_right (by decide) hi)), Bool.false_and]
    · simp [hi]
  rw [h0, Nat.or_zero]

/-- A TXN44 row's mask looks only at KIND and A. -/
theorem txnWord_and (k : BitVec 4) (a : Byte) (d : Word) (m : Nat) :
    (txnWord k a d).toNat &&& (m * 2 ^ 32) = ((k.toNat * 256 + a.toNat) &&& m) * 2 ^ 32 := by
  rw [txnWord_toNat]
  exact and_high _ _ _ _ d.isLt

/-- A MIDI_MSG24 mask of the status byte looks only at the status. -/
theorem msgWord_and (s : Byte) (d1 d2 : Data7) (m : Nat) :
    (msgWord s d1 d2).toNat &&& (m * 2 ^ 16) = (s.toNat &&& m) * 2 ^ 16 := by
  rw [msgWord_toNat]
  have h1 := d1.isLt
  have h2 := d2.isLt
  exact and_high _ _ _ _ (by omega)

end Sys2Proof
end

