-- ==== Sys2Proof/Laws/Num32.lean ====
section
/-! SUPPORT. Small facts about Num32 and about the two configuration functions, for the provers to cite. -/

namespace Sys2Proof

theorem Num32.mag_lt (x : Num32) : Num32.mag x < 2 ^ 31 := Nat.mod_lt _ (by decide)

/-- The magnitude bits of a packed Num. -/
theorem Num32.mag_pack (s : Bool) {g : Nat} (h : g < 2 ^ 31) : Num32.mag (Num32.pack s g) = g := by
  unfold Num32.mag Num32.pack
  cases s
  · simp only [Bool.false_eq_true, if_false, BitVec.toNat_ofNat]
    omega
  · simp only [if_true, BitVec.toNat_ofNat]
    omega

/-- The sign bit of a packed Num. -/
theorem Num32.neg_pack (s : Bool) {g : Nat} (h : g < 2 ^ 31) : Num32.neg? (Num32.pack s g) = s := by
  unfold Num32.neg? Num32.pack
  rw [BitVec.msb_eq_decide, BitVec.toNat_ofNat]
  cases s
  · simp only [Bool.false_eq_true, if_false, decide_eq_false_iff_not]
    omega
  · simp only [if_true, decide_eq_true_eq]
    omega

/-- A Num is its sign and its magnitude bits. -/
theorem Num32.pack_neg_mag (x : Num32) : Num32.pack (Num32.neg? x) (Num32.mag x) = x := by
  apply BitVec.eq_of_toNat_eq
  have hx := x.isLt
  unfold Num32.neg? Num32.pack Num32.mag
  rw [BitVec.msb_eq_decide, BitVec.toNat_ofNat]
  by_cases h : 2 ^ (32 - 1) ≤ x.toNat
  · simp only [h, decide_true, if_true]
    omega
  · simp only [h, decide_false, Bool.false_eq_true, if_false]
    omega

/-- Rounding never gives the magnitude of a NaN. -/
theorem Num32.roundMag_le (n d : Nat) : Num32.roundMag n d ≤ Num32.infMag := Nat.min_le_right _ _

theorem Num32.roundMag_zero (d : Nat) : Num32.roundMag 0 d = 0 := by
  simp [Num32.roundMag, Num32.infMag]

/-- A free NaN is a NaN, whatever its free bits. -/
theorem Num32.isNaN_freeNaN (op : NumOp) (x y : Num32) : Num32.isNaN (Num32.freeNaN op x y) = true := by
  have h : (Config.nanBits op x y).toNat % 2 ^ 22 < 2 ^ 22 := Nat.mod_lt _ (by decide)
  unfold Num32.isNaN Num32.freeNaN
  simp only
  rw [Num32.mag_pack _ (by omega)]
  exact decide_eq_true (by unfold Num32.infMag; omega)

/-- A packed rounded magnitude is no NaN. -/
theorem Num32.isNaN_pack_roundMag (s : Bool) (n d : Nat) : Num32.isNaN (Num32.pack s (Num32.roundMag n d)) = false := by
  have h := Num32.roundMag_le n d
  have h' : Num32.infMag < 2 ^ 31 := by decide
  unfold Num32.isNaN
  rw [Num32.mag_pack _ (by omega)]
  simpa using h

/-! ## EXP2 and SIN of this hardware -/

/-- EXP2_ZERO (00_scope.md R6). -/
theorem exp2_zero : Config.hw.exp2 Num32.zero = Num32.one := Config.exp2Fn.zero

/-- EXP2_MONO (00_scope.md R6). -/
theorem exp2_mono {m n : Nat} (h : m < n) (hn : n ≤ 127) :
    Num32.lt (Config.freqWith Config.hw.exp2 m) (Config.freqWith Config.hw.exp2 n) = true := Config.exp2Fn.mono m n h hn

/-- EXP2_FINITE (00_scope.md R6). -/
theorem exp2_finite {x : Num32} (h : Num32.le (Num32.ofInt (-6)) x = true) (h' : Num32.le x (Num32.ofInt 6) = true) :
    Num32.lt Num32.zero (Config.hw.exp2 x) = true ∧ Num32.lt (Config.hw.exp2 x) (Num32.ofInt 128) = true :=
  Config.exp2Fn.finite x h h'

/-- SIN_ZERO (00_scope.md R7). -/
theorem sin_zero : Config.hw.sin Num32.zero = Num32.zero := Config.sinFn.zero

/-- SIN_RANGE (00_scope.md R7). -/
theorem sin_range {x : Num32} (h : Num32.isFinite x = true) :
    Num32.le (Num32.ofInt (-1)) (Config.hw.sin x) = true ∧ Num32.le (Config.hw.sin x) (Num32.ofInt 1) = true :=
  Config.sinFn.range x h

end Sys2Proof
end

