-- ==== Sys2Proof/Laws/State.lean ====
section
/-! SUPPORT. The small lemmas of the named updates of State, Block and Pool: one per field per update. -/

namespace Sys2Proof.Machine

/-! ## Pool -/

@[simp] theorem Pool.get_set_same (p : Pool) (i : Fin 4) (v : Voice) : (p.set i v).get i = v := by
  fin_cases i <;> rfl

@[simp] theorem Pool.get_set_ne (p : Pool) {i j : Fin 4} (v : Voice) (h : j ≠ i) : (p.set i v).get j = p.get j := by
  fin_cases i <;> fin_cases j <;> first | rfl | exact absurd rfl h

@[simp] theorem Pool.get_map (f : Voice → Voice) (p : Pool) (i : Fin 4) : (p.map f).get i = f (p.get i) := by
  fin_cases i <;> rfl

/-- Two pools that agree in every slot are the same. -/
theorem Pool.ext_get {p q : Pool} (h : ∀ i, p.get i = q.get i) : p = q := by
  have h0 := h 0
  have h1 := h 1
  have h2 := h 2
  have h3 := h 3
  cases p
  cases q
  simp_all [Pool.get]

/-! ## advanceCursor -/

section
variable (b : Block)

@[simp] theorem advanceCursor_pst : (advanceCursor b).pst = b.pst := rfl
@[simp] theorem advanceCursor_voices : (advanceCursor b).voices = b.voices := rfl
@[simp] theorem advanceCursor_evq : (advanceCursor b).evq = b.evq := rfl
@[simp] theorem advanceCursor_samplePos : (advanceCursor b).samplePos = b.samplePos := rfl
@[simp] theorem advanceCursor_waveform : (advanceCursor b).waveform = b.waveform := rfl
@[simp] theorem advanceCursor_pitchBend : (advanceCursor b).pitchBend = b.pitchBend := rfl
@[simp] theorem advanceCursor_wfLatch : (advanceCursor b).wfLatch = b.wfLatch := rfl
@[simp] theorem advanceCursor_pbLatch : (advanceCursor b).pbLatch = b.pbLatch := rfl
@[simp] theorem advanceCursor_param (p : Param) : getParam p (advanceCursor b) = getParam p b := by cases p <;> rfl
@[simp] theorem advanceCursor_cursor_val : (advanceCursor b).cursor.val = (b.cursor.val + 1) % 4 := rfl

end

/-! ## applyEvent -/

section
variable (e : Event) (b : Block)

@[simp] theorem applyEvent_pst : (applyEvent e b).pst = b.pst := by cases e <;> rfl
@[simp] theorem applyEvent_evq : (applyEvent e b).evq = b.evq := by cases e <;> rfl
@[simp] theorem applyEvent_samplePos : (applyEvent e b).samplePos = b.samplePos := by cases e <;> rfl
@[simp] theorem applyEvent_waveform : (applyEvent e b).waveform = b.waveform := by cases e <;> rfl
@[simp] theorem applyEvent_pitchBend : (applyEvent e b).pitchBend = b.pitchBend := by cases e <;> rfl
@[simp] theorem applyEvent_wfLatch : (applyEvent e b).wfLatch = b.wfLatch := by cases e <;> rfl
@[simp] theorem applyEvent_pbLatch : (applyEvent e b).pbLatch = b.pbLatch := by cases e <;> rfl
@[simp] theorem applyEvent_param (p : Param) : getParam p (applyEvent e b) = getParam p b := by
  cases e <;> cases p <;> rfl

end

@[simp] theorem applyNoteOn_voices (n : Data7) (b : Block) :
    (applyNoteOn n b).voices = b.voices.set b.cursor (attackVoice n) := rfl
@[simp] theorem applyNoteOff_voices (n : Data7) (b : Block) :
    (applyNoteOff n b).voices = b.voices.map (releaseIfHolds n) := rfl
@[simp] theorem applyNoteOff_cursor (n : Data7) (b : Block) : (applyNoteOff n b).cursor = b.cursor := rfl

/-! ## enqueue and onStatus -/

section
variable (e : Event) (st : Byte) (b : Block)

@[simp] theorem enqueue_evq : (enqueue e b).evq = b.evq ++ [{ event := e, mid := midBlock b }] := rfl
@[simp] theorem enqueue_pst : (enqueue e b).pst = b.pst := rfl
@[simp] theorem enqueue_voices : (enqueue e b).voices = b.voices := rfl
@[simp] theorem enqueue_cursor : (enqueue e b).cursor = b.cursor := rfl
@[simp] theorem enqueue_pitchBend : (enqueue e b).pitchBend = b.pitchBend := rfl
@[simp] theorem enqueue_pbLatch : (enqueue e b).pbLatch = b.pbLatch := rfl
@[simp] theorem enqueue_param (p : Param) : getParam p (enqueue e b) = getParam p b := by cases p <;> rfl

@[simp] theorem onStatus_pst : (onStatus st b).pst = .expectingData1 st := rfl
@[simp] theorem onStatus_evq : (onStatus st b).evq = b.evq := rfl
@[simp] theorem onStatus_voices : (onStatus st b).voices = b.voices := rfl

end

/-! ## Parameters -/

@[simp] theorem getParam_setParam_same (p : Param) (x : Num32) (b : Block) : getParam p (setParam p x b) = x := by
  cases p <;> rfl

@[simp] theorem getParam_setParam_ne {p q : Param} (x : Num32) (b : Block) (h : q ≠ p) :
    getParam q (setParam p x b) = getParam q b := by
  cases p <;> cases q <;> first | rfl | exact absurd rfl h

section
variable (p : Param) (x : Num32) (b : Block)

@[simp] theorem setParam_pst : (setParam p x b).pst = b.pst := by cases p <;> rfl
@[simp] theorem setParam_voices : (setParam p x b).voices = b.voices := by cases p <;> rfl
@[simp] theorem setParam_cursor : (setParam p x b).cursor = b.cursor := by cases p <;> rfl
@[simp] theorem setParam_waveform : (setParam p x b).waveform = b.waveform := by cases p <;> rfl
@[simp] theorem setParam_pitchBend : (setParam p x b).pitchBend = b.pitchBend := by cases p <;> rfl
@[simp] theorem setParam_wfLatch : (setParam p x b).wfLatch = b.wfLatch := by cases p <;> rfl
@[simp] theorem setParam_pbLatch : (setParam p x b).pbLatch = b.pbLatch := by cases p <;> rfl
@[simp] theorem setParam_samplePos : (setParam p x b).samplePos = b.samplePos := by cases p <;> rfl
@[simp] theorem setParam_evq : (setParam p x b).evq = b.evq := by cases p <;> rfl

end

/-! ## The ports -/

section
variable (s : State) (a a' : Agent) (ws : List Raw)

@[simp] theorem dropGrant_block : (dropGrant s).block = s.block := rfl
@[simp] theorem dropGrant_resp : (dropGrant s).resp = s.resp := rfl
@[simp] theorem dropGrant_draws : (dropGrant s).draws = s.draws := rfl
@[simp] theorem dropGrant_grants : (dropGrant s).grants = s.grants.tail := rfl
@[simp] theorem pending_dropGrant : pending (dropGrant s) a = pending s a := by cases a <;> rfl

@[simp] theorem setPending_block : (setPending s a ws).block = s.block := by cases a <;> rfl
@[simp] theorem setPending_resp : (setPending s a ws).resp = s.resp := by cases a <;> rfl
@[simp] theorem setPending_draws : (setPending s a ws).draws = s.draws := by cases a <;> rfl
@[simp] theorem setPending_grants : (setPending s a ws).grants = s.grants := by cases a <;> rfl
@[simp] theorem pending_setPending_same : pending (setPending s a ws) a = ws := by cases a <;> rfl

theorem pending_setPending_ne (h : a' ≠ a) : pending (setPending s a ws) a' = pending s a' := by
  cases a <;> cases a' <;> first | rfl | exact absurd rfl h

@[simp] theorem settle_block : (settle a s).block = s.block := by unfold settle; split <;> simp

end

end Sys2Proof.Machine
end

