-- ==== Sys2Proof/Laws/Ops.lean ====
section
/-! SUPPORT. What each shared operation can do, said once. -/

namespace Sys2Proof.Machine

/-- An input either is held, with EVQ full and nothing changed, or is accepted with its effect. -/
theorem accept_next {f : Block → Block} {s t : State} (h : accept f s = .next t) :
    (evqFull Config.hw s.block = true ∧ t = { s with resp := .hold }) ∨
    (evqFull Config.hw s.block = false ∧ t = { s with block := f s.block, resp := .accepted }) := by
  unfold accept at h
  split at h
  · rename_i hf
    exact .inl ⟨hf, by injection h with h; exact h.symm⟩
  · rename_i hf
    exact .inr ⟨by simpa using hf, by injection h with h; exact h.symm⟩

theorem accept_of_full {f : Block → Block} {s : State} (h : evqFull Config.hw s.block = true) :
    accept f s = .next { s with resp := .hold } := by simp [accept, h]

theorem accept_of_room {f : Block → Block} {s : State} (h : evqFull Config.hw s.block = false) :
    accept f s = .next { s with block := f s.block, resp := .accepted } := by simp [accept, h]

/-- EVQ_FULL of this hardware, by the count. -/
theorem evqFull_hw (b : Block) : evqFull Config.hw b = decide (b.evq.length = 32) := by
  simp only [evqFull, evqCount, Config.hw]
  by_cases h : b.evq.length = 32 <;> simp [h]

/-- A transaction that answers nothing. -/
theorem silent_next {f : Block → Block} {s t : State} (h : silent f s = .next t) :
    t = { s with block := f s.block, resp := .none } := by
  injection h with h
  exact h.symm

/-- A transaction that answers a word. -/
theorem respond_next {w : Word} {s t : State} (h : respond w s = .next t) : t = { s with resp := .word w } := by
  injection h with h
  exact h.symm

/-- A completed message queues one event, writes PITCHBEND, or does nothing. -/
theorem complete_cases (st : Byte) (d1 d2 : Data7) (b : Block) :
    (∃ e, complete st d1 d2 b = enqueue e b) ∨
    complete st d1 d2 b = { b with pitchBend := bendOf (bendRaw d1 d2) } ∨
    complete st d1 d2 b = b := by
  unfold complete
  split
  · exact .inr (.inr rfl)
  · split
    · unfold noteOnMsg
      split
      · exact .inl ⟨_, rfl⟩
      · exact .inl ⟨_, rfl⟩
    · exact .inl ⟨_, rfl⟩
    · exact .inr (.inl rfl)
    · exact .inr (.inr rfl)

/-- A data byte is dropped, kept, or completes a message under the running status. -/
theorem onData_cases (d : Data7) (b : Block) :
    (b.pst = .waitingStatus ∧ onData d b = b) ∨
    (∃ st, b.pst = .expectingData1 st ∧ onData d b = { b with pst := .expectingData2 st d }) ∨
    (∃ st d1, b.pst = .expectingData2 st d1 ∧ onData d b = complete st d1 d { b with pst := .expectingData1 st }) := by
  unfold onData
  split
  · rename_i h
    exact .inl ⟨h, rfl⟩
  · rename_i st h
    exact .inr (.inl ⟨st, h, rfl⟩)
  · rename_i st d1 h
    exact .inr (.inr ⟨st, d1, h, rfl⟩)

/-- A byte is real-time, a status, or data. -/
theorem parseByte_cases (x : Byte) (b : Block) :
    (0xF8 ≤ x.toNat ∧ parseByte x b = b) ∨
    (0x80 ≤ x.toNat ∧ x.toNat ≤ 0xF7 ∧ parseByte x b = onStatus x b) ∨
    (x.toNat < 0x80 ∧ parseByte x b = onData (x.setWidth 7) b) := by
  unfold parseByte
  split
  · rename_i h
    exact .inl ⟨h, rfl⟩
  · rename_i h
    split
    · rename_i hm
      have := (BitVec.msb_eq_decide x).symm.trans hm
      simp only [decide_eq_true_eq] at this
      exact .inr (.inl ⟨by omega, by omega, rfl⟩)
    · rename_i hm
      have := (BitVec.msb_eq_decide x).symm.trans (Bool.not_eq_true _ ▸ hm)
      simp only [decide_eq_false_iff_not] at this
      exact .inr (.inr ⟨by omega, rfl⟩)

/-- A parameter write is the clamped word in that register. -/
theorem getParam_writeParam_same (p : Param) (d : Word) (b : Block) :
    getParam p (writeParam p d b) = Num32.clampUnit d := getParam_setParam_same p _ b

/-- A slot under NoteOff keeps its note, level, phase and filter state. -/
theorem releaseIfHolds_keeps (n : Data7) (v : Voice) :
    (releaseIfHolds n v).note = v.note ∧ (releaseIfHolds n v).level = v.level ∧
    (releaseIfHolds n v).phase = v.phase ∧ (releaseIfHolds n v).z = v.z := by
  unfold releaseIfHolds
  split <;> exact ⟨rfl, rfl, rfl, rfl⟩

end Sys2Proof.Machine
end

