-- ==== Sys2Proof/Laws/PerInstr.lean ====
section
/-! SUPPORT. Per-instruction laws: the family EncodeMatchesRow says that the word the encoder writes for a well-formed instruction
passes its own row's match and mask in spec/opcode_table.json. -/

namespace Sys2Proof.Laws

/-- The bits of a word, as spec/opcode_table.json numbers them. -/
def bitsOf (w : Raw) : Nat :=
  match w with
  | .txn t => t.toNat
  | .byte b => b.toNat
  | .msg m => m.toNat

namespace EncodeMatchesRow

/-- The word of a well-formed instruction matches its row. -/
def Statement (i : Instr) : Prop := wellFormed i = true → bitsOf (encode i) &&& (opcodeRow i).mask = (opcodeRow i).value

/-- The word of a transaction of a fixed kind and address. -/
theorem of_txn (k : BitVec 4) (a : Byte) (d : Word) (m v : Nat) (h : ((k.toNat * 256 + a.toNat) &&& m) = v) :
    (txnWord k a d).toNat &&& (m * 2 ^ 32) = v * 2 ^ 32 := by rw [txnWord_and, h]

/-- The word of a message, by its status. -/
theorem of_msg (s : Byte) (d1 d2 : Data7) (m v : Nat) (h : (s.toNat &&& m) = v) :
    (msgWord s d1 d2).toNat &&& (m * 2 ^ 16) = v * 2 ^ 16 := by rw [msgWord_and, h]

theorem byteIn (b : Byte) : Statement (.byteIn b) := fun _ =>
  of_txn _ _ _ 0xF00 0x100 (by revert b; decide)

theorem wrCutoff (d : Word) : Statement (.wrCutoff d) := fun _ => of_txn _ _ _ 0xFFF 0x200 (by decide)

theorem wrResonance (d : Word) : Statement (.wrResonance d) := fun _ => of_txn _ _ _ 0xFFF 0x201 (by decide)

theorem wrAttack (d : Word) : Statement (.wrAttack d) := fun _ => of_txn _ _ _ 0xFFF 0x202 (by decide)

theorem wrDecay (d : Word) : Statement (.wrDecay d) := fun _ => of_txn _ _ _ 0xFFF 0x203 (by decide)

theorem wrSustain (d : Word) : Statement (.wrSustain d) := fun _ => of_txn _ _ _ 0xFFF 0x204 (by decide)

theorem wrRelease (d : Word) : Statement (.wrRelease d) := fun _ => of_txn _ _ _ 0xFFF 0x205 (by decide)

theorem wrWaveform (d : Word) : Statement (.wrWaveform d) := fun _ => of_txn _ _ _ 0xFFF 0x206 (by decide)

theorem wrIgnored07 (d : Word) : Statement (.wrIgnored07 d) := fun _ => of_txn _ _ _ 0xFFF 0x207 (by decide)

theorem wrIgnored08to0F (a : Byte) (d : Word) : Statement (.wrIgnored08to0F a d) := fun h =>
  of_txn _ _ _ 0xFF8 0x208 (by
    simp only [wellFormed] at h
    revert a; decide)

theorem wrIgnored10to1F (a : Byte) (d : Word) : Statement (.wrIgnored10to1F a d) := fun h =>
  of_txn _ _ _ 0xFF0 0x210 (by
    simp only [wellFormed] at h
    revert a; decide)

theorem wrIgnored20to3F (a : Byte) (d : Word) : Statement (.wrIgnored20to3F a d) := fun h =>
  of_txn _ _ _ 0xFE0 0x220 (by
    simp only [wellFormed] at h
    revert a; decide)

theorem wrIgnored40to7F (a : Byte) (d : Word) : Statement (.wrIgnored40to7F a d) := fun h =>
  of_txn _ _ _ 0xFC0 0x240 (by
    simp only [wellFormed] at h
    revert a; decide)

theorem wrIgnored80toFF (a : Byte) (d : Word) : Statement (.wrIgnored80toFF a d) := fun h =>
  of_txn _ _ _ 0xF80 0x280 (by
    simp only [wellFormed] at h
    revert a; decide)

theorem rdCutoff : Statement .rdCutoff := fun _ => of_txn _ _ _ 0xFFF 0x300 (by decide)

theorem rdResonance : Statement .rdResonance := fun _ => of_txn _ _ _ 0xFFF 0x301 (by decide)

theorem rdAttack : Statement .rdAttack := fun _ => of_txn _ _ _ 0xFFF 0x302 (by decide)

theorem rdDecay : Statement .rdDecay := fun _ => of_txn _ _ _ 0xFFF 0x303 (by decide)

theorem rdSustain : Statement .rdSustain := fun _ => of_txn _ _ _ 0xFFF 0x304 (by decide)

theorem rdRelease : Statement .rdRelease := fun _ => of_txn _ _ _ 0xFFF 0x305 (by decide)

theorem rdWaveform : Statement .rdWaveform := fun _ => of_txn _ _ _ 0xFFF 0x306 (by decide)

theorem rdPitchbend : Statement .rdPitchbend := fun _ => of_txn _ _ _ 0xFFF 0x307 (by decide)

theorem rdStatus0 : Statement .rdStatus0 := fun _ => of_txn _ _ _ 0xFFF 0x308 (by decide)

theorem rdStatus1 : Statement .rdStatus1 := fun _ => of_txn _ _ _ 0xFFF 0x309 (by decide)

theorem rdVoice (i : Fin 4) (v : VoiceView) : Statement (.rdVoice i v) := fun _ =>
  of_txn _ _ _ 0xFF0 0x310 (by revert i; cases v <;> decide)

theorem rdReserved0Ato0B (a : Byte) : Statement (.rdReserved0Ato0B a) := fun h =>
  of_txn _ _ _ 0xFFE 0x30A (by
    simp only [wellFormed] at h
    revert a; decide)

theorem rdReserved0Cto0F (a : Byte) : Statement (.rdReserved0Cto0F a) := fun h =>
  of_txn _ _ _ 0xFFC 0x30C (by
    simp only [wellFormed] at h
    revert a; decide)

theorem rdReserved20to3F (a : Byte) : Statement (.rdReserved20to3F a) := fun h =>
  of_txn _ _ _ 0xFE0 0x320 (by
    simp only [wellFormed] at h
    revert a; decide)

theorem rdReserved40to7F (a : Byte) : Statement (.rdReserved40to7F a) := fun h =>
  of_txn _ _ _ 0xFC0 0x340 (by
    simp only [wellFormed] at h
    revert a; decide)

theorem rdReserved80toFF (a : Byte) : Statement (.rdReserved80toFF a) := fun h =>
  of_txn _ _ _ 0xF80 0x380 (by
    simp only [wellFormed] at h
    revert a; decide)

theorem sampleTick : Statement .sampleTick := fun _ => of_txn _ _ _ 0xF00 0x400 (by decide)

theorem reset : Statement .reset := fun _ => of_txn _ _ _ 0xF00 0xF00 (by decide)

theorem txnReserved0 : Statement .txnReserved0 := fun _ => of_txn _ _ _ 0xF00 0x0 (by decide)

theorem txnReserved5 : Statement .txnReserved5 := fun _ => of_txn _ _ _ 0xF00 0x500 (by decide)

theorem txnReserved6to7 (k : BitVec 4) : Statement (.txnReserved6to7 k) := fun h =>
  of_txn _ _ _ 0xE00 0x600 (by
    simp only [wellFormed] at h
    revert k; decide)

theorem txnReserved8toB (k : BitVec 4) : Statement (.txnReserved8toB k) := fun h =>
  of_txn _ _ _ 0xC00 0x800 (by
    simp only [wellFormed] at h
    revert k; decide)

theorem txnReservedCtoD (k : BitVec 4) : Statement (.txnReservedCtoD k) := fun h =>
  of_txn _ _ _ 0xE00 0xC00 (by
    simp only [wellFormed] at h
    revert k; decide)

theorem txnReservedE : Statement .txnReservedE := fun _ => of_txn _ _ _ 0xF00 0xE00 (by decide)

theorem byteData (v : Data7) : Statement (.byteData v) := by
  revert v; unfold Statement; decide

theorem byteStatusNoteoff : Statement .byteStatusNoteoff := by
  unfold Statement; decide

theorem byteStatusNoteon : Statement .byteStatusNoteon := by
  unfold Statement; decide

theorem byteStatusA0 : Statement .byteStatusA0 := by
  unfold Statement; decide

theorem byteStatusB0 : Statement .byteStatusB0 := by
  unfold Statement; decide

theorem byteStatusC0 : Statement .byteStatusC0 := by
  unfold Statement; decide

theorem byteStatusD0 : Statement .byteStatusD0 := by
  unfold Statement; decide

theorem byteStatusPitchbend : Statement .byteStatusPitchbend := by
  unfold Statement; decide

theorem byteStatusF0 : Statement .byteStatusF0 := by
  unfold Statement; decide

theorem byteStatusCh1 (b : Byte) : Statement (.byteStatusCh1 b) := by
  revert b; unfold Statement; decide

theorem byteStatusCh2to3 (b : Byte) : Statement (.byteStatusCh2to3 b) := by
  revert b; unfold Statement; decide

theorem byteStatusCh4to7 (b : Byte) : Statement (.byteStatusCh4to7 b) := by
  revert b; unfold Statement; decide

theorem byteStatusCh8to15T8toB (b : Byte) : Statement (.byteStatusCh8to15T8toB b) := by
  revert b; unfold Statement; decide

theorem byteStatusCh8to15TCtoD (b : Byte) : Statement (.byteStatusCh8to15TCtoD b) := by
  revert b; unfold Statement; decide

theorem byteStatusCh8to15TE (b : Byte) : Statement (.byteStatusCh8to15TE b) := by
  revert b; unfold Statement; decide

theorem byteRealtime (b : Byte) : Statement (.byteRealtime b) := by
  revert b; unfold Statement; decide

theorem msgNoteonVel0 (d1 : Data7) : Statement (.msgNoteonVel0 d1) := by
  revert d1; unfold Statement; decide

theorem msgNoteon (d1 d2 : Data7) : Statement (.msgNoteon d1 d2) := fun _ => of_msg _ _ _ 0xFF 0x90 (by decide)

theorem msgNoteoff (d1 d2 : Data7) : Statement (.msgNoteoff d1 d2) := fun _ => of_msg _ _ _ 0xFF 0x80 (by decide)

theorem msgPitchbend (d1 d2 : Data7) : Statement (.msgPitchbend d1 d2) := fun _ => of_msg _ _ _ 0xFF 0xE0 (by decide)

theorem msgOtherChannel (s : Byte) (d1 d2 : Data7) : Statement (.msgOtherChannel s d1 d2) := fun h =>
  of_msg _ _ _ 0x80 0x80 (by
    simp only [wellFormed] at h
    revert s; decide)

theorem msgUnrecognized (s : Byte) (d1 d2 : Data7) : Statement (.msgUnrecognized s d1 d2) := fun h =>
  of_msg _ _ _ 0x80 0x80 (by
    simp only [wellFormed] at h
    revert s; decide)

end EncodeMatchesRow

end Sys2Proof.Laws
end

