-- ==== Sys2Proof/Laws/Render.lean ====
section
/-! SUPPORT. What the parts of a tick can do, said once. -/

namespace Sys2Proof.Machine

/-- Without LEGACY_RACE every entry is applied and no Boolean is drawn. -/
theorem drainEntry_of_no_race {c : Config} (h : c.legacyRace = false) (d : Drained) (e : Entry) :
    drainEntry c d e = { d with block := applyEvent e.event d.block } := by simp [drainEntry, h]

/-- One entry, whatever the configuration: applied, or lost with or without its cursor advance. -/
theorem drainEntry_cases (c : Config) (d : Drained) (e : Entry) :
    (drainEntry c d e).block = applyEvent e.event d.block ∨ (drainEntry c d e).block = advanceCursor d.block ∨
    (drainEntry c d e).block = d.block := by
  unfold drainEntry raceEvent
  split
  · split
    · exact .inl rfl
    · split
      · split
        · exact .inr (.inl rfl)
        · exact .inr (.inr rfl)
      · exact .inr (.inr rfl)
  · exact .inl rfl

/-- Inside a block nothing happens before the sample. -/
theorem blockStart_of_inside {c : Config} {d : Drained} (h : d.block.samplePos ≠ 0#9) : blockStart c d = d := by
  simp [blockStart, h]

/-- An envelope step keeps the note, the phase and the filter state. -/
theorem envStep_keeps (c : Config) (l : Live) (v : Voice) :
    (envStep c l v).note = v.note ∧ (envStep c l v).phase = v.phase ∧ (envStep c l v).z = v.z := by
  unfold envStep attackStep decayStep sustainStep releaseStep idleStep
  split
  · dsimp only
    split <;> exact ⟨rfl, rfl, rfl⟩
  · dsimp only
    split <;> exact ⟨rfl, rfl, rfl⟩
  · exact ⟨rfl, rfl, rfl⟩
  · dsimp only
    split <;> exact ⟨rfl, rfl, rfl⟩
  · exact ⟨rfl, rfl, rfl⟩

/-- The four fields of a processed voice, and its note. -/
theorem voiceSample_fields (c : Config) (l : Live) (wf : Word) (pm : Num32) (v : Voice) :
    (voiceSample c l wf pm v).note = v.note ∧
    (voiceSample c l wf pm v).env = (envStep c l v).env ∧
    (voiceSample c l wf pm v).level = (envStep c l v).level ∧
    (voiceSample c l wf pm v).z = resonate l.r (lowPass l.c (shaped (osc c wf v.phase) (envStep c l v).level) v.z) ∧
    (voiceSample c l wf pm v).phase = wrapPhase (Num32.add v.phase (phaseInc c pm v.note)) := by
  obtain ⟨hn, hp, hz⟩ := envStep_keeps c l v
  simp [voiceSample, filterStep, phaseAdvance, hn, hp, hz]

/-- A slot's turn changes no other slot. -/
theorem voiceTurn_get_ne (c : Config) (l : Live) (wf : Word) (pm : Num32) (m : Mixing) {i j : Fin 4} (h : j ≠ i) :
    (voiceTurn c l wf pm m i).voices.get j = m.voices.get j := by
  unfold voiceTurn
  simp only
  split
  · exact Pool.get_set_ne _ _ h
  · rfl

/-- A slot's own turn: processed if active, kept if not. -/
theorem voiceTurn_get_same (c : Config) (l : Live) (wf : Word) (pm : Num32) (m : Mixing) (i : Fin 4) :
    (voiceTurn c l wf pm m i).voices.get i =
      if (m.voices.get i).active then voiceSample c l wf pm (m.voices.get i) else m.voices.get i := by
  unfold voiceTurn
  simp only
  split
  · exact Pool.get_set_same _ _ _
  · rfl

end Sys2Proof.Machine
end

