-- ==== Sys2Proof/Laws/Step.lean ====
section
/-! SUPPORT. What a step can do, said once. -/

namespace Sys2Proof.Machine

/-- What the ports offer, by the grants and the granted agent's words. -/
theorem offered_cases (s : State) :
    (s.grants = [] ∧ offered s = .quiet) ∨
    (∃ a gs, s.grants = a :: gs ∧ pending s a = [] ∧ offered s = .nothing a) ∨
    (∃ a gs w ws, s.grants = a :: gs ∧ pending s a = w :: ws ∧ offered s = .word a w) := by
  unfold offered
  split
  · rename_i h
    exact .inl ⟨h, rfl⟩
  · rename_i a gs h
    split
    · rename_i hp
      exact .inr (.inl ⟨a, gs, h, hp, rfl⟩)
    · rename_i w ws hp
      exact .inr (.inr ⟨a, gs, w, ws, h, hp, rfl⟩)

/-- A step that answers a next state stood still, passed a grant, or ran one decoded instruction. -/
theorem step_next {s t : State} (h : step s = .next t) :
    (offered s = .quiet ∧ t = s) ∨
    (∃ a, offered s = .nothing a ∧ t = dropGrant s) ∨
    (∃ a w i u, offered s = .word a w ∧ decode w = .ok i ∧ exec i s = .next u ∧ t = settle a u) := by
  unfold step at h
  split at h
  · rename_i ho
    exact .inl ⟨ho, by injection h with h; exact h.symm⟩
  · rename_i a ho
    exact .inr (.inl ⟨a, ho, by injection h with h; exact h.symm⟩)
  · rename_i a w ho
    split at h
    · exact absurd h (by simp)
    · rename_i i hd
      split at h
      · rename_i u he
        exact .inr (.inr ⟨a, w, i, u, ho, hd, he, by injection h with h; exact h.symm⟩)
      · exact absurd h (by simp)
      · exact absurd h (by simp)

/-- A step's block is the block it began with, or the block that the decoded instruction left. -/
theorem step_block {s t : State} (h : step s = .next t) :
    t.block = s.block ∨ ∃ w i u, decode w = .ok i ∧ exec i s = .next u ∧ t.block = u.block := by
  rcases step_next h with ⟨-, rfl⟩ | ⟨a, -, rfl⟩ | ⟨a, w, i, u, -, hd, he, rfl⟩
  · exact .inl rfl
  · exact .inl rfl
  · exact .inr ⟨w, i, u, hd, he, settle_block _ _⟩

/-- The next step after offerNext takes the word that was offered. -/
theorem offered_offerNext (w : Raw) (s : State) : offered (offerNext w s) = .word (agentOf w) w := by
  unfold offered offerNext
  generalize agentOf w = a
  cases a <;> rfl

end Sys2Proof.Machine
end

