-- ==== Sys2Proof/Tests/Slice0.lean ====
section
/-! SUPPORT. The model's own tests. Expected values come from the spec: the encodings of 30_encoding.md, written out; the
vectors V2.x and the programs P1 to P8 of 95_test_vectors.md, cited by their names; and hand calculation from the rules. The
theorems named witness_… show a state and operands that meet the hypotheses of the statement they name. -/

-- One theorem at a time: many `decide +kernel` elaborated side by side take a thread each, and the compile runs out of them.
set_option Elab.async false

namespace Sys2Proof.Tests

open Sys2Proof.Machine

/-! ## Helpers -/

/-- The test configuration of 92_eei_decisions.md D32 (R = 1024), with an EXP2 and a SIN that Lean evaluates: 1 and 0. Only
vectors of note 69 and bend 0, which use EXP2(0) = 1 alone, are run with it. -/
def testCfg : Config := { Config.hw with sampleRate := 1024, exp2 := fun _ => Num32.one, sin := fun _ => Num32.zero }

/-- The block with the preset STD of 95_test_vectors.md, SQUARE latched, nothing sounding, one tick into a block. -/
def std : Block :=
  { pst := .waitingStatus
    voices := { v0 := Voice.reset, v1 := Voice.reset, v2 := Voice.reset, v3 := Voice.reset }
    cursor := 0
    cutoff := 0x3F800000#32
    resonance := 0x00000000#32
    attack := 0x3E800000#32
    decay := 0x3F000000#32
    sustain := 0x3F000000#32
    release := 0x3F000000#32
    waveform := 1#32
    pitchBend := 0x00000000#32
    wfLatch := 1#32
    pbLatch := 0x00000000#32
    samplePos := 1#9
    evq := [] }

/-- A machine whose block is `b`. -/
def mk (b : Block) : State := { State.reset with block := b }

/-- `std` with one voice: note 0x45 in slot 0, in the given envelope state and at the given level. -/
def one (e : EnvState) (level : Num32) : Block :=
  { std with voices := { std.voices with v0 := { Voice.reset with note := 0x45#7, env := e, level := level } } }

/-- `std` with a queue of k copies of NoteOn(0x45). -/
def queued (k : Nat) : Block := { std with evq := List.replicate k { event := .noteOn 0x45#7, mid := true } }

/-- The state a transaction or a step leaves, if it leaves one. -/
def after (o : Host.Outcome State Fault Refusal) : Option State :=
  match o with
  | .next t => some t
  | .fault _ => none
  | .refused _ => none

/-- The block and the response a transaction leaves. -/
def result (i : Instr) (b : Block) : Option (Block × Response) := (after (exec i (mk b))).map fun t => (t.block, t.resp)

/-- The parser state and the queue after a byte, from parser state `p` at a block start. -/
def parsed (p : ParserState) (b : Byte) : Option (ParserState × List Entry) :=
  (result (.byteIn b) { std with pst := p, samplePos := 0#9 }).map fun r => (r.1.pst, r.1.evq)

/-- Level and envelope state after one step of the envelope under testCfg. -/
def stepped (b : Block) : Num32 × EnvState :=
  let v := envStep testCfg (readLive b) b.voices.v0
  (v.level, v.env)

/-! ## WellFormed refuses an ill-formed term of each check -/

theorem test_wellformed_refuses_write_ranges :
    wellFormed (.wrIgnored08to0F 0x07#8 0#32) = false ∧ wellFormed (.wrIgnored08to0F 0x10#8 0#32) = false ∧
    wellFormed (.wrIgnored10to1F 0x0F#8 0#32) = false ∧ wellFormed (.wrIgnored10to1F 0x20#8 0#32) = false ∧
    wellFormed (.wrIgnored20to3F 0x1F#8 0#32) = false ∧ wellFormed (.wrIgnored20to3F 0x40#8 0#32) = false ∧
    wellFormed (.wrIgnored40to7F 0x3F#8 0#32) = false ∧ wellFormed (.wrIgnored40to7F 0x80#8 0#32) = false ∧
    wellFormed (.wrIgnored80toFF 0x7F#8 0#32) = false := by decide

theorem test_wellformed_refuses_read_ranges :
    wellFormed (.rdReserved0Ato0B 0x09#8) = false ∧ wellFormed (.rdReserved0Ato0B 0x0C#8) = false ∧
    wellFormed (.rdReserved0Cto0F 0x0B#8) = false ∧ wellFormed (.rdReserved0Cto0F 0x10#8) = false ∧
    wellFormed (.rdReserved20to3F 0x1F#8) = false ∧ wellFormed (.rdReserved20to3F 0x40#8) = false ∧
    wellFormed (.rdReserved40to7F 0x3F#8) = false ∧ wellFormed (.rdReserved40to7F 0x80#8) = false ∧
    wellFormed (.rdReserved80toFF 0x7F#8) = false := by decide

theorem test_wellformed_refuses_kinds :
    wellFormed (.txnReserved6to7 0x5#4) = false ∧ wellFormed (.txnReserved6to7 0x8#4) = false ∧
    wellFormed (.txnReserved8toB 0x7#4) = false ∧ wellFormed (.txnReserved8toB 0xC#4) = false ∧
    wellFormed (.txnReservedCtoD 0xB#4) = false ∧ wellFormed (.txnReservedCtoD 0xE#4) = false := by decide

theorem test_wellformed_refuses_bytes :
    wellFormed (.byteStatusCh1 0x82#8) = false ∧ wellFormed (.byteStatusCh2to3 0x81#8) = false ∧
    wellFormed (.byteStatusCh4to7 0x88#8) = false ∧ wellFormed (.byteStatusCh8to15T8toB 0xC8#8) = false ∧
    wellFormed (.byteStatusCh8to15TCtoD 0xE8#8) = false ∧ wellFormed (.byteStatusCh8to15TE 0xF8#8) = false ∧
    wellFormed (.byteRealtime 0xF7#8) = false := by decide

theorem test_wellformed_refuses_messages :
    wellFormed (.msgNoteon 0x40#7 0x00#7) = false ∧ wellFormed (.msgOtherChannel 0x90#8 0#7 0#7) = false ∧
    wellFormed (.msgOtherChannel 0xF8#8 0#7 0#7) = false ∧ wellFormed (.msgOtherChannel 0x71#8 0#7 0#7) = false ∧
    wellFormed (.msgUnrecognized 0x90#8 0#7 0#7) = false ∧ wellFormed (.msgUnrecognized 0xB1#8 0#7 0#7) = false := by decide

/-! ## Decoding: words written out from the encodings of 30_encoding.md, every constructor once or more -/

/-- REG_WRITE, `2_aa_dddddddd` (R80, R94), bit by bit: KIND 0010, then A, then DATA. -/
theorem test_decode_writes :
    decode (.txn 0b00100000000000111111100000000000000000000000#44) = .ok (.wrCutoff 0x3F800000#32) ∧
    decode (.txn 0b00100000000100111110100110011001100110011010#44) = .ok (.wrResonance 0x3E99999A#32) ∧
    decode (.txn 0x2023E800000#44) = .ok (.wrAttack 0x3E800000#32) ∧
    decode (.txn 0x20300000001#44) = .ok (.wrDecay 0x00000001#32) ∧
    decode (.txn 0x20480000000#44) = .ok (.wrSustain 0x80000000#32) ∧
    decode (.txn 0x205BF000000#44) = .ok (.wrRelease 0xBF000000#32) ∧
    decode (.txn 0x20600000007#44) = .ok (.wrWaveform 0x00000007#32) ∧
    decode (.txn 0x2073F800000#44) = .ok (.wrIgnored07 0x3F800000#32) := by decide

/-- The ignored writes (R252), at the ends of each row's range. -/
theorem test_decode_ignored_writes :
    decode (.txn 0x208FFFFFFFF#44) = .ok (.wrIgnored08to0F 0x08#8 0xFFFFFFFF#32) ∧
    decode (.txn 0x20F00000001#44) = .ok (.wrIgnored08to0F 0x0F#8 0x00000001#32) ∧
    decode (.txn 0x21000000002#44) = .ok (.wrIgnored10to1F 0x10#8 0x00000002#32) ∧
    decode (.txn 0x21F00000000#44) = .ok (.wrIgnored10to1F 0x1F#8 0x00000000#32) ∧
    decode (.txn 0x22080000000#44) = .ok (.wrIgnored20to3F 0x20#8 0x80000000#32) ∧
    decode (.txn 0x23F00000000#44) = .ok (.wrIgnored20to3F 0x3F#8 0x00000000#32) ∧
    decode (.txn 0x24000000000#44) = .ok (.wrIgnored40to7F 0x40#8 0x00000000#32) ∧
    decode (.txn 0x27F00000000#44) = .ok (.wrIgnored40to7F 0x7F#8 0x00000000#32) ∧
    decode (.txn 0x28000000000#44) = .ok (.wrIgnored80toFF 0x80#8 0x00000000#32) ∧
    decode (.txn 0x2FF12345678#44) = .ok (.wrIgnored80toFF 0xFF#8 0x12345678#32) := by decide

/-- REG_READ of the registers, `3_aa_00000000` (R80, R94); a DATA that is not 0 is ignored (V2.7.17). -/
theorem test_decode_reads :
    decode (.txn 0x300DEADBEEF#44) = .ok .rdCutoff ∧
    decode (.txn 0b00110000000100000000000000000000000000000000#44) = .ok .rdResonance ∧
    decode (.txn 0x30200000000#44) = .ok .rdAttack ∧ decode (.txn 0x30300000000#44) = .ok .rdDecay ∧
    decode (.txn 0x30400000000#44) = .ok .rdSustain ∧ decode (.txn 0x30500000000#44) = .ok .rdRelease ∧
    decode (.txn 0x30600000000#44) = .ok .rdWaveform ∧ decode (.txn 0x30700000000#44) = .ok .rdPitchbend ∧
    decode (.txn 0x30800000000#44) = .ok .rdStatus0 ∧ decode (.txn 0x30900000000#44) = .ok .rdStatus1 := by decide

/-- REG_READ of the voice views, 0x10 + 4i + j (10_state.md R38). -/
theorem test_decode_voice_reads :
    decode (.txn 0x31000000000#44) = .ok (.rdVoice 0 .vstate) ∧ decode (.txn 0x31300000000#44) = .ok (.rdVoice 0 .vz) ∧
    decode (.txn 0x31500000000#44) = .ok (.rdVoice 1 .vlevel) ∧ decode (.txn 0x31A00000000#44) = .ok (.rdVoice 2 .vphase) ∧
    decode (.txn 0x31C00000000#44) = .ok (.rdVoice 3 .vstate) ∧ decode (.txn 0x31F00000000#44) = .ok (.rdVoice 3 .vz) := by
  decide

/-- REG_READ of the reserved addresses (R254), at the ends of each row's range. -/
theorem test_decode_reserved_reads :
    decode (.txn 0x30A00000000#44) = .ok (.rdReserved0Ato0B 0x0A#8) ∧
    decode (.txn 0x30B00000000#44) = .ok (.rdReserved0Ato0B 0x0B#8) ∧
    decode (.txn 0x30C00000000#44) = .ok (.rdReserved0Cto0F 0x0C#8) ∧
    decode (.txn 0x30F00000000#44) = .ok (.rdReserved0Cto0F 0x0F#8) ∧
    decode (.txn 0x32000000000#44) = .ok (.rdReserved20to3F 0x20#8) ∧
    decode (.txn 0x33F00000000#44) = .ok (.rdReserved20to3F 0x3F#8) ∧
    decode (.txn 0x34000000000#44) = .ok (.rdReserved40to7F 0x40#8) ∧
    decode (.txn 0x37F00000000#44) = .ok (.rdReserved40to7F 0x7F#8) ∧
    decode (.txn 0x38000000000#44) = .ok (.rdReserved80toFF 0x80#8) ∧
    decode (.txn 0x3FF00000000#44) = .ok (.rdReserved80toFF 0xFF#8) := by decide

/-- BYTE_IN, SAMPLE_TICK, RESET and the reserved kinds (R80); the fields they do not use are ignored. -/
theorem test_decode_kinds :
    decode (.txn 0b00011001000000000000000000000000000000000000#44) = .ok (.byteIn 0x90#8) ∧
    decode (.txn 0x400FFFFFFFF#44) = .ok .sampleTick ∧ decode (.txn 0xFAB00000000#44) = .ok .reset ∧
    decode (.txn 0x00000000000#44) = .ok .txnReserved0 ∧ decode (.txn 0x51234567890#44) = .ok .txnReserved5 ∧
    decode (.txn 0x60000000000#44) = .ok (.txnReserved6to7 0x6#4) ∧
    decode (.txn 0x70000000000#44) = .ok (.txnReserved6to7 0x7#4) ∧
    decode (.txn 0x80000000000#44) = .ok (.txnReserved8toB 0x8#4) ∧
    decode (.txn 0x90000000000#44) = .ok (.txnReserved8toB 0x9#4) ∧
    decode (.txn 0xA0000000000#44) = .ok (.txnReserved8toB 0xA#4) ∧
    decode (.txn 0xB0000000000#44) = .ok (.txnReserved8toB 0xB#4) ∧
    decode (.txn 0xC0000000000#44) = .ok (.txnReservedCtoD 0xC#4) ∧
    decode (.txn 0xD0000000000#44) = .ok (.txnReservedCtoD 0xD#4) ∧
    decode (.txn 0xEFFFFFFFFFF#44) = .ok .txnReservedE := by decide

/-- The stream bytes (R81, R82), bit by bit: bit 7, TYPE, CHAN. -/
theorem test_decode_bytes :
    decode (.byte 0b01000101#8) = .ok (.byteData 0b1000101#7) ∧ decode (.byte 0b10000000#8) = .ok .byteStatusNoteoff ∧
    decode (.byte 0b10010000#8) = .ok .byteStatusNoteon ∧ decode (.byte 0b10100000#8) = .ok .byteStatusA0 ∧
    decode (.byte 0b10110000#8) = .ok .byteStatusB0 ∧ decode (.byte 0b11000000#8) = .ok .byteStatusC0 ∧
    decode (.byte 0b11010000#8) = .ok .byteStatusD0 ∧ decode (.byte 0b11100000#8) = .ok .byteStatusPitchbend ∧
    decode (.byte 0b11110000#8) = .ok .byteStatusF0 ∧ decode (.byte 0b10010001#8) = .ok (.byteStatusCh1 0x91#8) ∧
    decode (.byte 0b11110011#8) = .ok (.byteStatusCh2to3 0xF3#8) ∧
    decode (.byte 0b11110111#8) = .ok (.byteStatusCh4to7 0xF7#8) ∧
    decode (.byte 0b10111111#8) = .ok (.byteStatusCh8to15T8toB 0xBF#8) ∧
    decode (.byte 0b11011000#8) = .ok (.byteStatusCh8to15TCtoD 0xD8#8) ∧
    decode (.byte 0b11101111#8) = .ok (.byteStatusCh8to15TE 0xEF#8) ∧
    decode (.byte 0b11111110#8) = .ok (.byteRealtime 0xFE#8) := by decide

/-- The messages `s, 0, d1, 0, d2` (R83, R87); the first matching row wins. -/
theorem test_decode_messages :
    decode (.msg 0b100100000100000100000000#24) = .ok (.msgNoteonVel0 0x41#7) ∧
    decode (.msg 0b100100000100000001111111#24) = .ok (.msgNoteon 0x40#7 0x7F#7) ∧
    decode (.msg 0x804500#24) = .ok (.msgNoteoff 0x45#7 0x00#7) ∧
    decode (.msg 0xE00040#24) = .ok (.msgPitchbend 0x00#7 0x40#7) ∧
    decode (.msg 0x91407F#24) = .ok (.msgOtherChannel 0x91#8 0x40#7 0x7F#7) ∧
    decode (.msg 0xF70102#24) = .ok (.msgOtherChannel 0xF7#8 0x01#7 0x02#7) ∧
    decode (.msg 0xB00764#24) = .ok (.msgUnrecognized 0xB0#8 0x07#7 0x64#7) ∧
    decode (.msg 0xF00102#24) = .ok (.msgUnrecognized 0xF0#8 0x01#7 0x02#7) := by decide

theorem test_decode_rejects :
    decode (.msg 0x7F0000#24) = .reject .notAStatus ∧ decode (.msg 0xF80000#24) = .reject .notAStatus ∧
    decode (.msg 0x908000#24) = .reject .notADataByte ∧ decode (.msg 0x900080#24) = .reject .notADataByte := by decide

/-- Table words, one of each format, and the state that runs them (log 5). -/
theorem test_decode_table_words :
    decodeTableWord 44 0x2043FC00000 = some (.wrSustain 0x3FC00000#32) ∧ decodeTableWord 8 0x90 = some .byteStatusNoteon ∧
    decodeTableWord 24 0x800000 = some (.msgNoteoff 0#7 0#7) ∧ decodeTableWord 24 0 = none := by decide

theorem test_fetch_word_runs_first :
    (after (step (State.reset.withFetchWord 44 0x2043FC00000))).map (fun t => (t.block.sustain, t.grants, t.control)) =
      some (0x3F800000#32, [], []) ∧
    (after (step (State.reset.withFetchWord 8 0x90))).map (fun t => (t.block.pst, t.resp)) =
      some (.expectingData1 0x90#8, .accepted) ∧
    (after (step (State.reset.withFetchWord 24 0x904000))).map (fun t => t.block.evq) =
      some [{ event := .noteOff 0x40#7, mid := false }] := by decide +kernel

/-- The notation of R94 and R95: `WR SUSTAIN, 1.5`, `NOTEON 69, 127` and `BEND 8193`. -/
theorem test_assembler :
    Asm.wr 0x04#8 0x3FC00000#32 = .txn 0x2043FC00000#44 ∧
    Asm.noteOn 69#7 127#7 = [.txn 0x19000000000#44, .txn 0x14500000000#44, .txn 0x17F00000000#44] ∧
    Asm.bend 8193#14 = [.txn 0x1E000000000#44, .txn 0x10100000000#44, .txn 0x14000000000#44] := by decide

/-! ## The parser -/

/-- V2.1.1 to V2.1.5. -/
theorem test_parser_status_and_data :
    parsed .waitingStatus 0x45#8 = some (.waitingStatus, []) ∧ parsed .waitingStatus 0xF8#8 = some (.waitingStatus, []) ∧
    parsed .waitingStatus 0x90#8 = some (.expectingData1 0x90#8, []) ∧
    parsed (.expectingData1 0x90#8) 0x45#8 = some (.expectingData2 0x90#8 0x45#7, []) ∧
    parsed (.expectingData2 0x90#8 0x45#7) 0x7F#8 =
      some (.expectingData1 0x90#8, [{ event := .noteOn 0x45#7, mid := false }]) := by decide +kernel

/-- V2.1.6 to V2.1.11. -/
theorem test_parser_messages :
    parsed (.expectingData2 0x90#8 0x45#7) 0x00#8 =
      some (.expectingData1 0x90#8, [{ event := .noteOff 0x45#7, mid := false }]) ∧
    parsed (.expectingData2 0x80#8 0x45#7) 0x40#8 =
      some (.expectingData1 0x80#8, [{ event := .noteOff 0x45#7, mid := false }]) ∧
    parsed (.expectingData2 0x90#8 0x45#7) 0x80#8 = some (.expectingData1 0x80#8, []) ∧
    parsed (.expectingData2 0x90#8 0x45#7) 0xFE#8 = some (.expectingData2 0x90#8 0x45#7, []) ∧
    parsed (.expectingData2 0x91#8 0x40#7) 0x7F#8 = some (.expectingData1 0x91#8, []) ∧
    parsed (.expectingData2 0xB0#8 0x07#7) 0x64#8 = some (.expectingData1 0xB0#8, []) := by decide +kernel

/-- V2.1.16, V2.1.17, V2.1.19, V2.1.20, V2.1.23: the PITCHBEND word. -/
theorem test_pitchbend_words :
    bendOf (bendRaw 0x00#7 0x00#7) = 0xBF800000#32 ∧ bendOf (bendRaw 0x01#7 0x00#7) = 0xBF7FF800#32 ∧
    bendOf (bendRaw 0x7F#7 0x3F#7) = 0xB9000000#32 ∧ bendOf (bendRaw 0x00#7 0x40#7) = 0x00000000#32 ∧
    bendOf (bendRaw 0x7F#7 0x7F#7) = 0x3F7FF800#32 := by decide +kernel

/-- V2.1.12, and V2.1.16 through the message row: PITCHBEND is written and nothing is queued. -/
theorem test_pitchbend_message :
    (result (.byteIn 0x40#8) { std with pst := .expectingData2 0xE0#8 0x00#7, pitchBend := 0x3F000000#32 }).map
      (fun r => (r.1.pst, r.1.pitchBend, r.1.evq)) = some (.expectingData1 0xE0#8, 0x00000000#32, []) ∧
    (result (.msgPitchbend 0x00#7 0x00#7) std).map (fun r => (r.1.pitchBend, r.1.evq)) =
      some (0xBF800000#32, []) := by decide +kernel

/-- V2.1.15 and P7: with 32 entries even a real-time byte is held, and with 31 it is accepted. -/
theorem test_hold_when_queue_full :
    result (.byteIn 0xF8#8) (queued 32) = some (queued 32, .hold) ∧
    result (.byteRealtime 0xF8#8) (queued 31) = some (queued 31, .accepted) ∧
    result (.msgNoteoff 0x45#7 0#7) (queued 32) = some (queued 32, .hold) := by decide +kernel

/-- An event queued at SAMPLE_POS 1 is marked mid-block (10_state.md R36). -/
theorem test_mid_mark :
    (result (.msgNoteon 0x45#7 0x01#7) std).map (fun r => r.1.evq) = some [{ event := .noteOn 0x45#7, mid := true }] ∧
    (result (.msgNoteonVel0 0x45#7) std).map (fun r => r.1.evq) = some [{ event := .noteOff 0x45#7, mid := true }] := by
  decide +kernel

/-! ## The register port -/

/-- V2.7.1 to V2.7.5: NaNs, infinities and -0.0. -/
theorem test_write_clamp_specials :
    storedUnit 0x7FC00000#32 = 0x00000000#32 ∧
    (result (.wrCutoff 0x7FC00000#32) std).map (fun r => r.1.cutoff) = some 0x00000000#32 ∧
    (result (.wrCutoff 0xFFC00000#32) std).map (fun r => r.1.cutoff) = some 0x00000000#32 ∧
    (result (.wrAttack 0x7F800000#32) std).map (fun r => r.1.attack) = some 0x3F800000#32 ∧
    (result (.wrAttack 0xFF800000#32) std).map (fun r => r.1.attack) = some 0x00000000#32 ∧
    (result (.wrSustain 0x80000000#32) std).map (fun r => r.1.sustain) = some 0x80000000#32 := by decide +kernel

/-- V2.7.6 to V2.7.11. -/
theorem test_write_clamp_values :
    (result (.wrSustain 0x3FC00000#32) std).map (fun r => (r.1.sustain, r.2)) = some (0x3F800000#32, .none) ∧
    (result (.wrRelease 0xBF000000#32) std).map (fun r => r.1.release) = some 0x00000000#32 ∧
    (result (.wrResonance 0x3E99999A#32) std).map (fun r => r.1.resonance) = some 0x3E99999A#32 ∧
    (result (.wrDecay 0x00000001#32) std).map (fun r => r.1.decay) = some 0x00000001#32 ∧
    (result (.wrDecay 0x3F800001#32) std).map (fun r => r.1.decay) = some 0x3F800000#32 ∧
    (result (.wrWaveform 0x00000007#32) std).map (fun r => r.1.waveform) = some 0x00000007#32 := by decide +kernel

/-- V2.7.12 to V2.7.16. -/
theorem test_ignored_and_reserved :
    result (.wrIgnored07 0x3F800000#32) std = some (std, .none) ∧
    result (.wrIgnored08to0F 0x08#8 0xFFFFFFFF#32) std = some (std, .none) ∧
    result (.rdReserved0Ato0B 0x0A#8) std = some (std, .word 0x00000000#32) ∧
    result (.rdReserved80toFF 0xFF#8) std = some (std, .word 0x00000000#32) ∧
    result .txnReserved0 std = some (std, .none) ∧ result .txnReservedE std = some (std, .none) := by decide +kernel

/-- STATUS0 of V2.1.4 and of P1 after its first tick, STATUS1 of P1 and of P7. -/
theorem test_status_words :
    status0 { std with pst := .expectingData2 0x90#8 0x45#7 } = 0x00459080#32 ∧
    status0 { one .attack 0x3B800000#32 with pst := .expectingData1 0x90#8, cursor := 1 } = 0x00009051#32 ∧
    status1 Config.hw { queued 1 with samplePos := 1#9 } = 0x00010001#32 ∧
    status1 Config.hw { queued 32 with samplePos := 0#9 } = 0x00600000#32 := by decide +kernel

/-- VSTATE_0 of P3 and P5, and the other views of slot 0. -/
theorem test_voice_views :
    result (.rdVoice 0 .vstate) (one .attack 0x3C800000#32) = some (one .attack 0x3C800000#32, .word 0x000001C5#32) ∧
    result (.rdVoice 0 .vlevel) (one .attack 0x3C800000#32) = some (one .attack 0x3C800000#32, .word 0x3C800000#32) ∧
    result (.rdVoice 0 .vstate) (one .release 0x3F000000#32) = some (one .release 0x3F000000#32, .word 0x000004C5#32) ∧
    result (.rdVoice 0 .vstate) (one .idle 0x00000000#32) = some (one .idle 0x00000000#32, .word 0x00000045#32) := by
  decide +kernel

/-! ## Numerics -/

/-- The words of the literals of R140, R186 and R210, and of R90's examples. -/
theorem test_literals :
    Num32.ofDec 1 1000 = 0x3A83126F#32 ∧ Num32.ofDec 1 100 = 0x3C23D70A#32 ∧ Num32.ofDec 95 100 = 0x3F733333#32 ∧
    gainSine = 0x40066666#32 ∧ gainTriangle = 0x4019999A#32 ∧ gainSaw = 0x3F99999A#32 ∧ half = 0x3F000000#32 ∧
    minusOne = 0xBF800000#32 ∧ Num32.ofInt 440 = 0x43DC0000#32 := by decide +kernel

/-- Ties go to even, subnormals are kept, and an overflow is an infinity (00_scope.md R2, by hand). -/
theorem test_rounding :
    Num32.add 0x3F800000#32 0x33800000#32 = 0x3F800000#32 ∧ Num32.add 0x3F800001#32 0x33800000#32 = 0x3F800002#32 ∧
    Num32.mul 0x00800000#32 0x3F000000#32 = 0x00400000#32 ∧ Num32.add 0x7F7FFFFF#32 0x7F7FFFFF#32 = 0x7F800000#32 ∧
    Num32.sub 0x3F800000#32 0x3F800000#32 = 0x00000000#32 ∧ Num32.div 0x3F800000#32 0x40400000#32 = 0x3EAAAAAB#32 := by
  decide +kernel

/-! ## Envelope, oscillator, filter -/

/-- V2.2.1 to V2.2.4. -/
theorem test_attack_steps :
    stepped (one .attack 0x00000000#32) = (0x3B800000#32, .attack) ∧
    stepped (one .attack 0x3F7F0000#32) = (0x3F800000#32, .decay) ∧
    stepped { one .attack 0x00000000#32 with attack := 0x00000000#32 } = (0x3F79FFFF#32, .attack) ∧
    stepped { one .attack (Num32.ofDec 999 1000) with attack := 0x00000000#32 } = (0x3F800000#32, .decay) := by
  decide +kernel

/-- V2.2.5 to V2.2.9. -/
theorem test_decay_and_sustain_steps :
    stepped (one .decay 0x3F800000#32) = (0x3F7FC000#32, .decay) ∧
    stepped { one .decay 0x3F800000#32 with sustain := 0x3F800000#32 } = (0x3F800000#32, .sustain) ∧
    stepped { one .decay (Num32.ofDec 6 10) with sustain := 0x3F400000#32 } = (0x3F400000#32, .sustain) ∧
    stepped (one .decay 0x3F004000#32) = (0x3F000000#32, .sustain) ∧
    stepped { one .sustain 0x3F000000#32 with sustain := Num32.ofDec 9 10 } = (0x3F000000#32, .sustain) := by
  decide +kernel

/-- V2.2.10 to V2.2.16. -/
theorem test_release_and_idle_steps :
    stepped (one .release 0x3F400000#32) = (0x3F3FC000#32, .release) ∧
    stepped (one .release 0x3A800000#32) = (0x00000000#32, .idle) ∧
    stepped (one .release 0x00000000#32) = (0x00000000#32, .idle) ∧
    stepped { one .release 0x3F000000#32 with sustain := 0x00000000#32 } = (0x3F000000#32, .release) ∧
    stepped { one .release 0x00000000#32 with sustain := 0x00000000#32 } = (0x00000000#32, .idle) ∧
    stepped { one .release 0x3E800000#32 with sustain := 0x3F800000#32, release := 0x3F800000#32 } =
      (0x3E7F0000#32, .release) ∧
    stepped (one .idle 0x00000000#32) = (0x00000000#32, .idle) := by decide +kernel

/-- V2.3.2 to V2.3.6, at p = 0.4296875, 0.5 and 0.75. -/
theorem test_oscillator :
    (osc testCfg 1#32 0x3EDC0000#32).value = 0x3F800000#32 ∧ (osc testCfg 1#32 0x3F000000#32).value = 0xBF800000#32 ∧
    (osc testCfg 2#32 0x3EDC0000#32).value = 0x3F380000#32 ∧ (osc testCfg 2#32 0x3F000000#32).value = 0x3F800000#32 ∧
    (osc testCfg 2#32 0x3F400000#32).value = 0x00000000#32 ∧ (osc testCfg 3#32 0x3EDC0000#32).value = 0xBE100000#32 ∧
    osc testCfg 4#32 0x3E800000#32 = { value := 0x00000000#32, gain := 0x00000000#32 } ∧
    osc testCfg 0xFFFFFFFF#32 0x3E800000#32 = { value := 0x00000000#32, gain := 0x00000000#32 } := by decide +kernel

/-- V2.4.6 (FREQ(69) and its increment at R = 44100), and the phases of P3. -/
theorem test_frequency_and_phase :
    freq testCfg 69#7 = 0x43DC0000#32 ∧
    phaseInc { testCfg with sampleRate := 44100 } Num32.one 69#7 = 0x3C2377EE#32 ∧
    (phaseAdvance testCfg Num32.one (attackVoice 69#7)).phase = 0x3EDC0000#32 ∧
    wrapPhase (Num32.add 0x3F5C0000#32 0x3EDC0000#32) = 0x3E940000#32 ∧ wrapPhase 0x3F800000#32 = 0x00000000#32 := by
  decide +kernel

/-- V2.5.1 to V2.5.6. -/
theorem test_filter :
    (filterStep (readLive { std with cutoff := 0x3F000000#32, resonance := 0x3F000000#32 }) 0x3B800000#32
      (attackVoice 69#7)).z = 0x3A800000#32 ∧
    (filterStep (readLive { std with cutoff := 0x3F000000#32 }) 0x00000000#32
      { attackVoice 69#7 with z := 0x3F000000#32 }).z = 0x3E800000#32 ∧
    (filterStep (readLive { std with cutoff := 0x3E800000#32, resonance := 0x3F000000#32 }) 0x3F800000#32
      { attackVoice 69#7 with z := 0x3F000000#32 }).z = 0x3EA00000#32 ∧
    (filterStep (readLive std) 0xBF800000#32 { attackVoice 69#7 with z := 0x3E800000#32 }).z = 0xBF800000#32 ∧
    (filterStep (readLive { std with cutoff := 0x00000000#32 }) 0x3F800000#32 (attackVoice 69#7)).z = 0x3C23D70A#32 ∧
    (filterStep (readLive { std with resonance := 0x3F800000#32 }) 0x3F800000#32 (attackVoice 69#7)).z =
      0x3D4CCCD0#32 := by decide +kernel

/-! ## The tick -/

/-- V2.6.2: STD, NoteOn(69) applied at a block start. -/
theorem test_first_tick_of_a_note :
    let t := tick testCfg { queued 1 with samplePos := 0#9 } 0
    t.mix = 0x3B800000#32 ∧ t.block.voices.v0.level = 0x3B800000#32 ∧ t.block.voices.v0.phase = 0x3EDC0000#32 ∧
    t.block.voices.v0.z = 0x3B800000#32 ∧ t.block.cursor = 1 ∧ t.block.evq = [] ∧ t.block.samplePos = 1#9 := by
  decide +kernel

/-- V2.2.22: NoteOn and NoteOff of one note at one block start, SUSTAIN 0. -/
theorem test_note_on_then_off :
    let t := tick testCfg { std with
      samplePos := 0#9
      sustain := 0x00000000#32
      evq := [{ event := .noteOn 0x45#7, mid := false }, { event := .noteOff 0x45#7, mid := false }] } 0
    t.mix = 0x00000000#32 ∧ t.block.voices.v0.env = .idle ∧ t.block.voices.v0.phase = 0x3EDC0000#32 ∧
    t.block.cursor = 1 := by decide +kernel

/-- V2.6.5: RESONANCE written mid-block is heard from the next tick. -/
theorem test_live_parameter :
    (tick testCfg { std with
      resonance := 0x3F000000#32
      voices := { std.voices with v0 :=
        { note := 0x45#7, env := .attack, level := 0x3B800000#32, phase := 0x3EDC0000#32, z := 0x3B800000#32 } } } 0).mix =
      0x3B800000#32 := by decide +kernel

/-- V2.6.6 and V2.6.4: position 511 wraps to 0, and mid-block the latches keep. -/
theorem test_block_position :
    (tick testCfg { queued 1 with samplePos := 511#9, waveform := 3#32 } 0).block =
      { queued 1 with samplePos := 0#9, waveform := 3#32 } := by decide +kernel

/-- V2.6.1 and R290's example, through exec: the first tick after reset. -/
theorem test_tick_after_reset :
    (after (exec .sampleTick State.reset)).map (fun t => (t.resp, t.block.samplePos)) =
      some (.word 0x00000000#32, 1#9) := by decide +kernel

/-- V2.8.2 and V2.8.3: RESET drops a partly received message and a full queue. -/
theorem test_reset :
    (result .reset { queued 32 with pst := .expectingData2 0x90#8 0x45#7 }).map (fun r => (r.1.pst, r.1.evq, r.2)) =
      some (.waitingStatus, [], .none) := by decide +kernel

/-! ## Witnesses for the statements: encoding and step -/

theorem witness_decodeInvertsEncode :
    wellFormed (.msgOtherChannel 0x81#8 0x7F#7 0x00#7) = true ∧ wellFormed (.msgOtherChannel 0xF7#8 0x7F#7 0x00#7) = true ∧
    wellFormed (.wrIgnored80toFF 0xFF#8 0xFFFFFFFF#32) = true ∧ wellFormed (.rdVoice 3 .vz) = true := by decide

theorem witness_decodedIsWellFormed : decode (.msg 0x90407F#24) = .ok (.msgNoteon 0x40#7 0x7F#7) := by decide

theorem witness_messageRowFirstMatch :
    (0x80 ≤ (0x80#8 : Byte).toNat ∧ (0x80#8 : Byte).toNat ≤ 0xF7) ∧
    (0x80 ≤ (0xF7#8 : Byte).toNat ∧ (0xF7#8 : Byte).toNat ≤ 0xF7) ∧
    (msgStatus 0x7F0000#24).toNat < 0x80 ∧ 0xF7 < (msgStatus 0xF80000#24).toNat ∧
    (0x80 ≤ (msgStatus 0x808000#24).toNat ∧ (msgStatus 0x808000#24).toNat ≤ 0xF7 ∧ 0x80 ≤ (msgD1 0x808000#24).toNat) ∧
    (0x80 ≤ (msgStatus 0xF70080#24).toNat ∧ (msgStatus 0xF70080#24).toNat ≤ 0xF7 ∧ 0x80 ≤ (msgD2 0xF70080#24).toNat) := by
  decide

/-- The input agent granted, with BYTE_IN 0x90 to issue. -/
theorem witness_stepRunsTheDecodedInstruction :
    ((mk std).withFetchWord 44 0x19000000000).grants = [.input] ∧
    pending ((mk std).withFetchWord 44 0x19000000000) .input = [.txn 0x19000000000#44] ∧
    decode (.txn 0x19000000000#44) = .ok (.byteIn 0x90#8) := by decide +kernel

theorem witness_stepWithNothingOffered :
    (mk std).grants = [] ∧ { mk std with grants := [.render] }.grants = [.render] ∧
    pending { mk std with grants := [.render] } .render = [] := by decide +kernel

theorem witness_heldWordStays :
    ((mk (queued 32)).withFetchWord 44 0x1F800000000).grants = [.input] ∧
    pending ((mk (queued 32)).withFetchWord 44 0x1F800000000) .input = [.txn 0x1F800000000#44] ∧
    decode (.txn 0x1F800000000#44) = .ok (.byteIn 0xF8#8) ∧ isStream (.byteIn 0xF8#8) = true ∧
    ((mk (queued 32)).withFetchWord 44 0x1F800000000).block.evq.length = 32 := by decide +kernel

theorem witness_blockStartLiftsTheHold :
    (mk { queued 32 with samplePos := 0#9 }).block.samplePos = 0#9 := by decide +kernel

/-! ## Witnesses: the parser -/

theorem witness_streamHeldWhileQueueFull :
    isStream (.byteIn 0x90#8) = true ∧ isStream (.byteData 0x40#7) = true ∧ isStream (.msgNoteon 0x40#7 0x7F#7) = true ∧
    (mk (queued 32)).block.evq.length = 32 := by decide +kernel

theorem witness_statusByteOpensMessage :
    (mk (queued 31)).block.evq.length ≠ 32 ∧ 0x80 ≤ (0x80#8 : Byte).toNat ∧ (0xF7#8 : Byte).toNat ≤ 0xF7 := by decide +kernel

theorem witness_realTimeByteChangesNothing :
    (mk (queued 31)).block.evq.length ≠ 32 ∧ 0xF8 ≤ (0xF8#8 : Byte).toNat ∧ 0xF8 ≤ (0xFF#8 : Byte).toNat := by decide +kernel

theorem witness_dataByteDroppedOrKept :
    ((mk std).block.evq.length ≠ 32 ∧ (mk std).block.pst = .waitingStatus) ∧
    ((mk { queued 31 with pst := .expectingData1 0xF7#8 }).block.evq.length ≠ 32 ∧
      (mk { queued 31 with pst := .expectingData1 0xF7#8 }).block.pst = .expectingData1 0xF7#8) := by decide +kernel

theorem witness_dataByteCompletesItsMessage :
    (mk { queued 31 with pst := .expectingData2 0x80#8 0x7F#7 }).block.evq.length ≠ 32 ∧ isStatus 0x80#8 = true ∧
    isStatus 0xF7#8 = true ∧
    (mk { queued 31 with pst := .expectingData2 0x80#8 0x7F#7 }).block.pst = .expectingData2 0x80#8 0x7F#7 := by
  decide +kernel

theorem witness_messageEffects : (mk (queued 31)).block.evq.length ≠ 32 ∧ (0x01#7 : Data7) ≠ 0#7 := by decide +kernel

theorem witness_noteMessagesFullAndRunning :
    (mk (queued 30)).block.evq.length < 31 ∧ (0x01#7 : Data7) ≠ 0#7 := by decide +kernel

/-! ## Witnesses: the register port and reset -/

theorem witness_ignoredWritesAndReservedKindsDoNothing :
    0x07 ≤ (0x07#8 : Byte).toNat ∧ 0x07 ≤ (0xFF#8 : Byte).toNat ∧ txnKind 0x00000000000#44 = 0#4 ∧
    (5 ≤ (txnKind 0x50000000000#44).toNat ∧ (txnKind 0x50000000000#44).toNat ≤ 14) ∧
    (5 ≤ (txnKind 0xEFFFFFFFFFF#44).toNat ∧ (txnKind 0xEFFFFFFFFFF#44).toNat ≤ 14) := by decide

theorem witness_readAfterWrite :
    (0x00#8 : Byte).toNat ≤ 0x05 ∧ (0x05#8 : Byte).toNat ≤ 0x05 ∧ (0x06#8 : Byte) = 0x06#8 ∧ 0x07 ≤ (0x07#8 : Byte).toNat ∧
    0x07 ≤ (0xFF#8 : Byte).toNat ∧ (0x06#8 : Byte) ≠ 0x05#8 := by decide

theorem witness_statusAndVoiceViewFields : (queued 32).evq.length ≤ 63 ∧ (queued 63).evq.length ≤ 63 := by decide +kernel

theorem witness_resetStateReadsZero :
    (0x10 ≤ (0x10#8 : Byte).toNat ∧ (0x10#8 : Byte).toNat ≤ 0x1F) ∧
    (0x10 ≤ (0x1F#8 : Byte).toNat ∧ (0x1F#8 : Byte).toNat ≤ 0x1F) := by decide

/-! ## Witnesses: the tick -/

theorem witness_blockStartDrainsThenLatches :
    (mk std).block.samplePos ≠ 0#9 ∧ (mk { queued 2 with samplePos := 0#9 }).block.samplePos = 0#9 := by decide +kernel

theorem witness_noteOnTakesTheSlotAtTheCursor : (1 : Fin 4) ≠ std.cursor := by decide +kernel

/-- A voice in Attack far from 1.0, one at 1.0, and one that a block start has just put there. -/
theorem witness_attackTick :
    let x := fun (b : Block) => Num32.add b.voices.v0.level (Num32.div Num32.one (Num32.mul
      (Num32.clamp b.attack (Num32.ofDec 1 1000) Num32.one) (Num32.ofInt 44100)))
    ((tickStart (mk (one .attack 0x00000000#32))).voices.get 0).env = .attack ∧
    Num32.le Num32.one (x (tickStart (mk (one .attack 0x00000000#32)))) = false ∧
    ((tickStart (mk (one .attack 0x3F800000#32))).voices.get 0).env = .attack ∧
    Num32.le Num32.one (x (tickStart (mk (one .attack 0x3F800000#32)))) = true ∧
    ((tickStart (mk { queued 1 with samplePos := 0#9 })).voices.get 0).env = .attack := by decide +kernel

theorem witness_decayTick :
    let x := fun (b : Block) => Num32.sub b.voices.v0.level (Num32.div (Num32.sub Num32.one
      (Num32.clamp b.sustain Num32.zero Num32.one)) (Num32.mul (Num32.clamp b.decay (Num32.ofDec 1 1000) Num32.one)
      (Num32.ofInt 44100)))
    ((tickStart (mk (one .decay 0x3F800000#32))).voices.get 0).env = .decay ∧
    Num32.le (x (tickStart (mk (one .decay 0x3F800000#32)))) 0x3F000000#32 = false ∧
    ((tickStart (mk (one .decay 0x3F000000#32))).voices.get 0).env = .decay ∧
    Num32.le (x (tickStart (mk (one .decay 0x3F000000#32)))) 0x3F000000#32 = true := by decide +kernel

theorem witness_sustainTick : ((tickStart (mk (one .sustain 0x3F000000#32))).voices.get 0).env = .sustain := by decide +kernel

theorem witness_releaseTick :
    let x := fun (b : Block) => Num32.sub b.voices.v0.level (Num32.div (Num32.clamp b.sustain Num32.zero Num32.one)
      (Num32.mul (Num32.clamp b.release (Num32.ofDec 1 1000) Num32.one) (Num32.ofInt 44100)))
    ((tickStart (mk (one .release 0x3F000000#32))).voices.get 0).env = .release ∧
    Num32.le (x (tickStart (mk (one .release 0x3F000000#32)))) Num32.zero = false ∧
    ((tickStart (mk (one .release 0x00000000#32))).voices.get 0).env = .release ∧
    Num32.le (x (tickStart (mk (one .release 0x00000000#32)))) Num32.zero = true := by decide +kernel

theorem witness_waveformsAndGains : 4 ≤ (4#32 : Word).toNat ∧ 4 ≤ (0xFFFFFFFF#32 : Word).toNat := by decide

theorem witness_voicePipelineTick :
    ((tickStart (mk (one .sustain 0x3F000000#32))).voices.get 0).env ≠ .idle ∧
    ((tickStart (mk (one .sustain 0x3F000000#32))).voices.get 3).env = .idle := by decide +kernel

theorem witness_frequencyAndPitchProperties : (126#7 : Data7).toNat < (127#7 : Data7).toNat := by decide

theorem witness_midBlockTickIgnoresWhatWaits : (mk (queued 2)).block.samplePos ≠ 0#9 := by decide +kernel

theorem witness_eventLatency :
    511 ≤ (512 - (queued 1).samplePos.toNat) % 512 ∧ (512 - ({ queued 1 with samplePos := 0#9 } : Block).samplePos.toNat) % 512 = 0 := by
  decide +kernel

theorem witness_noteOnThenOffGoesIdleInOneTick :
    let b := { std with
      samplePos := 0#9
      evq := [{ event := .noteOn 0x45#7, mid := true }, { event := .noteOff 0x45#7, mid := false }] }
    b.samplePos = 0#9 ∧
    b.evq = [{ event := .noteOn 0x45#7, mid := true }, { event := .noteOff 0x45#7, mid := false }] := by decide +kernel

theorem witness_whoWritesWhat :
    exec (.wrWaveform 3#32) (mk std) = .next { mk std with block := { std with waveform := 3#32 }, resp := .none } ∧
    (Instr.wrWaveform 3#32) ≠ .reset ∧ (Instr.wrWaveform 3#32) ≠ .sampleTick ∧ isStream (.wrWaveform 3#32) = false ∧
    isParamWrite .rdCutoff = false := ⟨rfl, by decide, by decide, by decide, by decide⟩

theorem witness_legacyRaceDrain :
    ({ testCfg with legacyRace := true, draw := fun _ => true } : Config).legacyRace = true ∧
    ({ testCfg with legacyRace := true, draw := fun _ => true } : Config).draw 0 = true ∧
    ({ testCfg with legacyRace := true, draw := fun _ => false } : Config).draw 0 = false ∧
    Event.noteOff 0x45#7 = .noteOff 0x45#7 ∧ Event.noteOn 0x45#7 = .noteOn 0x45#7 := by decide +kernel

/-! ## Witnesses: the invariants -/

/-- A legal block with a voice sounding in mid-attack. -/
def sounding : Block :=
  { std with
    pst := .expectingData2 0x90#8 0x45#7
    voices := { std.voices with v0 :=
      { note := 0x45#7, env := .attack, level := 0x3E800000#32, phase := 0x3F5C0000#32, z := 0xBF000000#32 } } }

theorem sounding_legal : Legal sounding := by
  refine ⟨?_, ?_, ?_, ⟨⟨8192#14, ?_⟩, ⟨8192#14, ?_⟩⟩, ?_, ?_, ?_, ?_⟩
  · show isStatus 0x90#8 = true
    decide
  · show sounding.evq.length ≤ 32
    decide
  · intro p
    cases p <;> exact ⟨by decide +kernel, by decide +kernel⟩
  · decide +kernel
  · decide +kernel
  · intro i
    fin_cases i <;> exact ⟨by decide +kernel, by decide +kernel⟩
  · intro i
    fin_cases i <;> decide +kernel
  · intro i
    fin_cases i <;> exact ⟨by decide +kernel, by decide +kernel⟩
  · intro i
    fin_cases i <;> exact ⟨by decide +kernel, by decide +kernel⟩

theorem witness_stepKeepsParserQueueAndParameters :
    ParserOk ((mk sounding).withFetchWord 44 0x17F00000000).block ∧
    QueueOk ((mk sounding).withFetchWord 44 0x17F00000000).block ∧
    ParamsOk ((mk sounding).withFetchWord 44 0x17F00000000).block ∧
    ∃ t, step ((mk sounding).withFetchWord 44 0x17F00000000) = .next t :=
  ⟨sounding_legal.1, sounding_legal.2.1, sounding_legal.2.2.1, _, rfl⟩

theorem witness_stepKeepsTheLevelsInRange :
    (LevelsOk ((mk sounding).withFetchWord 44 0x40000000000).block ∧
      IdleOk ((mk sounding).withFetchWord 44 0x40000000000).block) ∧
    ∃ t, step ((mk sounding).withFetchWord 44 0x40000000000) = .next t :=
  ⟨⟨sounding_legal.2.2.2.2.1, sounding_legal.2.2.2.2.2.1⟩, _, rfl⟩

theorem witness_stepKeepsThePhasesInRange :
    (BendOk ((mk sounding).withFetchWord 44 0x40000000000).block ∧
      PhasesOk ((mk sounding).withFetchWord 44 0x40000000000).block) ∧
    ∃ t, step ((mk sounding).withFetchWord 44 0x40000000000) = .next t :=
  ⟨⟨sounding_legal.2.2.2.1, sounding_legal.2.2.2.2.2.2.1⟩, _, rfl⟩

theorem witness_stepKeepsTheBlockLegal :
    Legal ((mk sounding).withFetchWord 44 0x40000000000).block ∧
    ∃ t, step ((mk sounding).withFetchWord 44 0x40000000000) = .next t := ⟨sounding_legal, _, rfl⟩

theorem witness_mixIsFiniteAndBounded : Legal (mk sounding).block := sounding_legal

/-! ## Witnesses: envelopes and numerics -/

theorem witness_releaseEndsWhenSustainIsLargeEnough :
    let b := { one .release 0x3F800000#32 with sustain := 0x3B800000#32 }
    b.evq = [] ∧ (b.voices.get 0).env = .release ∧ inUnit (b.voices.get 0).level ∧
    Num32.le (Num32.ofDec 1 256) b.sustain = true :=
  ⟨rfl, rfl, ⟨by decide +kernel, by decide +kernel⟩, by decide +kernel⟩

theorem witness_attackEnds :
    (one .attack 0x00000000#32).evq = [] ∧ ((one .attack 0x00000000#32).voices.get 0).env = .attack ∧
    inUnit ((one .attack 0x00000000#32).voices.get 0).level :=
  ⟨rfl, rfl, ⟨by decide +kernel, by decide +kernel⟩⟩

theorem witness_releaseNeverEndsWithZeroSustain :
    let b := { one .release 0x3F000000#32 with sustain := 0x80000000#32 }
    b.evq = [] ∧ (b.voices.get 0).env = .release ∧ Num32.lt Num32.zero (b.voices.get 0).level = true ∧
    Num32.eq b.sustain Num32.zero = true := by decide +kernel

theorem witness_arithmeticIsCorrectlyRounded :
    Num32.isFinite 0x7F7FFFFF#32 = true ∧ Num32.isFinite 0x80000001#32 = true ∧ Num32.toUnits 0x80000001#32 ≠ 0 := by
  decide +kernel

theorem witness_comparisonsAreExact :
    (Num32.isFinite 0x80000000#32 = true ∧ Num32.isFinite 0x7F7FFFFF#32 = true) ∧ Num32.isNaN 0x7F800001#32 = true := by
  decide +kernel

theorem witness_clampStaysBetweenItsBounds :
    Num32.isFinite Num32.zero = true ∧ Num32.isFinite Num32.one = true ∧ Num32.le Num32.zero Num32.one = true ∧
    Num32.isNaN 0x7FC00000#32 = true ∧ Num32.le Num32.zero 0x80000000#32 = true ∧ Num32.le 0x80000000#32 Num32.one = true ∧
    Num32.lt 0x80000001#32 Num32.zero = true ∧ Num32.lt Num32.one 0x3F800001#32 = true ∧
    Num32.le Num32.zero Num32.zero = true ∧ Num32.le Num32.one Num32.one = true := by
  decide +kernel

theorem witness_integersConvertExactly : |(-16777216 : Int)| ≤ 2 ^ 24 ∧ |(16777216 : Int)| ≤ 2 ^ 24 := by decide

theorem witness_phaseWrapIsExact :
    Num32.isFinite 0x7F7FFFFF#32 = true ∧ Num32.le Num32.zero 0x7F7FFFFF#32 = true ∧ Num32.isFinite 0x80000000#32 = true ∧
    Num32.le Num32.zero 0x80000000#32 = true := by decide +kernel

end Sys2Proof.Tests
end

/-! # Magnitude bits and their rounding -/

namespace Sys2Proof.Num32

/-! ## The exact value of magnitude bits -/

/-- The whole numbers that have magnitude bits: a significand of at most 24 bits, in a binade or among the subnormals. -/
theorem units_binade {e m : Nat} (hm : m ≤ 2 ^ 24) (he : e = 0 ∨ 2 ^ 23 ≤ m) : units (e * 2 ^ 23 + m) = m * 2 ^ e := by
  unfold units
  rcases Nat.lt_or_ge m (2 ^ 23) with hlt | hge
  · obtain rfl : e = 0 := by omega
    rw [if_pos (by omega), zero_mul, zero_add, pow_zero, mul_one]
  · rw [if_neg (by omega)]
    rcases Nat.lt_or_ge m (2 ^ 24) with hlt | htop
    · rw [show (e * 2 ^ 23 + m) / 2 ^ 23 - 1 = e by omega, show 2 ^ 23 + (e * 2 ^ 23 + m) % 2 ^ 23 = m by omega]
    · obtain rfl : m = 2 ^ 24 := by omega
      rw [show (e * 2 ^ 23 + 2 ^ 24) / 2 ^ 23 - 1 = e + 1 by omega,
        show 2 ^ 23 + (e * 2 ^ 23 + 2 ^ 24) % 2 ^ 23 = 2 ^ 23 by omega, pow_succ]
      ring

/-- Magnitude bits are a binade and a significand. -/
theorem exists_binade (g : Nat) : ∃ e m, g = e * 2 ^ 23 + m ∧ m < 2 ^ 24 ∧ (e = 0 ∨ 2 ^ 23 ≤ m) :=
  ⟨g / 2 ^ 23 - 1, g - (g / 2 ^ 23 - 1) * 2 ^ 23, by omega, by omega, by omega⟩

@[simp] theorem units_zero : units 0 = 0 := rfl

theorem units_strictMono : StrictMono units := by
  refine strictMono_nat_of_lt_succ fun g => ?_
  obtain ⟨e, m, rfl, hm, he⟩ := exists_binade g
  rw [units_binade hm.le he, Nat.add_assoc, units_binade (m := m + 1) hm (by omega)]
  exact Nat.mul_lt_mul_of_pos_right (Nat.lt_succ_self m) (Nat.two_pow_pos e)

/-- The least value beyond the finite Nums. -/
theorem units_infMag : units infMag = 2 ^ 24 * 2 ^ 253 := by decide +kernel

/-- Every whole number of 24 bits, scaled by a power of two, has magnitude bits. -/
theorem exists_units_eq (j : Nat) {k : Nat} (hk : k ≤ 2 ^ 24) : ∃ g, units g = k * 2 ^ j := by
  induction j generalizing k with
  | zero => exact ⟨0 * 2 ^ 23 + k, units_binade hk (.inl rfl)⟩
  | succ j ih =>
    rcases Nat.lt_or_ge k (2 ^ 23) with hlt | hge
    · obtain ⟨g, hg⟩ := ih (k := 2 * k) (by omega)
      exact ⟨g, by rw [hg, pow_succ]; ring⟩
    · exact ⟨(j + 1) * 2 ^ 23 + k, units_binade hk (.inr hge)⟩

/-! ## Rounding -/

/-- The magnitude bits of the greatest value not above `n / d`. -/
def floorMag (n d : Nat) : Nat :=
  ((n / d).log2 - 23) * 2 ^ 23 + n / (d * 2 ^ ((n / d).log2 - 23))

/-- The significand that rounding starts from fills its binade. -/
theorem significand_bounds (n d : Nat) :
    n / (d * 2 ^ ((n / d).log2 - 23)) < 2 ^ 24 ∧
    ((n / d).log2 - 23 = 0 ∨ 2 ^ 23 ≤ n / (d * 2 ^ ((n / d).log2 - 23))) := by
  rw [← Nat.div_div_eq_div_mul]
  generalize n / d = k
  have hlt : k < 2 ^ (k.log2 + 1) := Nat.lt_log2_self
  rcases Nat.le_total k.log2 23 with hl | hl
  · rw [show k.log2 - 23 = 0 by omega, pow_zero, Nat.div_one]
    exact ⟨hlt.trans_le (Nat.pow_le_pow_right (by decide) (by omega)), .inl rfl⟩
  · have hk : k ≠ 0 := by rintro rfl; simp at hl
    have hle : 2 ^ k.log2 ≤ k := Nat.log2_self_le hk
    obtain ⟨e, he⟩ := Nat.exists_eq_add_of_le hl
    rw [he] at hlt hle ⊢
    rw [Nat.add_sub_cancel_left]
    refine ⟨Nat.div_lt_of_lt_mul ?_, .inr ((Nat.le_div_iff_mul_le (Nat.two_pow_pos e)).2 ?_)⟩
    · rwa [← pow_add, show e + 24 = 23 + e + 1 by omega]
    · rwa [← pow_add]

/-- The two neighbours of `n / d`. -/
theorem units_floorMag (n d : Nat) :
    units (floorMag n d) = n / (d * 2 ^ ((n / d).log2 - 23)) * 2 ^ ((n / d).log2 - 23) ∧
    units (floorMag n d + 1) = (n / (d * 2 ^ ((n / d).log2 - 23)) + 1) * 2 ^ ((n / d).log2 - 23) := by
  obtain ⟨hm, he⟩ := significand_bounds n d
  unfold floorMag
  exact ⟨units_binade hm.le he, by rw [Nat.add_assoc]; exact units_binade hm (by omega)⟩

theorem units_floorMag_le (n d : Nat) : units (floorMag n d) * d ≤ n := by
  rw [(units_floorMag n d).1, Nat.mul_assoc, Nat.mul_comm _ d]
  exact Nat.div_mul_le_self _ _

theorem lt_units_floorMag_succ (n : Nat) {d : Nat} (hd : 0 < d) : n < units (floorMag n d + 1) * d := by
  rw [(units_floorMag n d).2, Nat.mul_assoc, Nat.mul_comm _ d, Nat.mul_comm]
  exact Nat.lt_mul_div_succ n (Nat.mul_pos hd (Nat.two_pow_pos _))

/-- `n / d` is rounded up: it is above the middle of its neighbours, or at the middle with the odd neighbour below. -/
def roundsUp (n d : Nat) : Prop :=
  (units (floorMag n d) + units (floorMag n d + 1)) * d < 2 * n ∨
  (units (floorMag n d) + units (floorMag n d + 1)) * d = 2 * n ∧ floorMag n d % 2 = 1

/-- Rounding takes one of the two neighbours, or overflows. -/
theorem roundMag_cases (n d : Nat) :
    roundsUp n d ∧ roundMag n d = min (floorMag n d + 1) infMag ∨
    ¬ roundsUp n d ∧ roundMag n d = min (floorMag n d) infMag := by
  obtain ⟨hL, hU⟩ := units_floorMag n d
  unfold roundMag roundsUp
  rw [hL, hU]
  unfold floorMag
  dsimp only
  generalize (n / d).log2 - 23 = e
  generalize hq : d * 2 ^ e = q
  have hn : q * (n / q) + n % q = n := Nat.div_add_mod n q
  generalize n / q = m at hn
  generalize n % q = r at hn
  have hsum : (m * 2 ^ e + (m + 1) * 2 ^ e) * d = 2 * (q * m) + q := by rw [← hq]; ring
  have hpar : (e * 2 ^ 23 + m) % 2 = m % 2 := by omega
  rw [hsum, hpar]
  by_cases hup : q < 2 * r ∨ 2 * r = q ∧ m % 2 = 1
  · refine .inl ⟨by omega, ?_⟩
    rw [if_pos (by simpa using hup), Nat.add_assoc]
  · refine .inr ⟨by omega, ?_⟩
    rw [if_neg (by simpa using hup)]

/-- The rounding of `n / d` is the value nearest to it, the even one of two that are equally near. -/
theorem roundMag_nearest {n d : Nat} (hd : 0 < d) (hr : roundMag n d < infMag) (g : Nat) :
    |(units (roundMag n d) * d - n : Int)| ≤ |(units g * d - n : Int)| ∧
    (|(units (roundMag n d) * d - n : Int)| = |(units g * d - n : Int)| → units g ≠ units (roundMag n d) →
      roundMag n d % 2 = 0) := by
  have hL := units_floorMag_le n d
  have hU := lt_units_floorMag_succ n hd
  have hside : units g * d ≤ units (floorMag n d) * d ∨ units (floorMag n d + 1) * d ≤ units g * d := by
    rcases Nat.lt_or_ge (floorMag n d) g with h | h
    · exact .inr (Nat.mul_le_mul_right d (units_strictMono.monotone h))
    · exact .inl (Nat.mul_le_mul_right d (units_strictMono.monotone h))
  have hinj : ∀ a b, units a ≠ units b → units a * d ≠ units b * d := fun _ _ hab h =>
    hab (Nat.eq_of_mul_eq_mul_right hd h)
  have hround := roundMag_cases n d
  unfold roundsUp at hround
  rw [Nat.add_mul] at hround
  rcases hround with ⟨hup, he⟩ | ⟨hup, he⟩
  · obtain he : roundMag n d = floorMag n d + 1 := by omega
    rw [he]
    have hne := hinj g (floorMag n d + 1)
    simp only [Int.abs_eq_natAbs]
    omega
  · obtain he : roundMag n d = floorMag n d := by omega
    rw [he]
    have hne := hinj g (floorMag n d)
    simp only [Int.abs_eq_natAbs]
    omega

end Sys2Proof.Num32

/-! # From magnitudes to Nums: overflow, signs and the correctly rounded value -/

namespace Sys2Proof.Num32

/-! ## Overflow -/

/-- The greatest finite value. -/
theorem units_infMag_pred : units (infMag - 1) = (2 ^ 24 - 1) * 2 ^ 253 := by decide +kernel

/-- Rounding overflows from half a last place above the greatest finite value on. -/
theorem roundMag_eq_infMag_iff {n d : Nat} (hd : 0 < d) :
    roundMag n d = infMag ↔ (2 ^ 25 - 1) * 2 ^ 252 * d ≤ n := by
  have hL := units_floorMag_le n d
  have hU := lt_units_floorMag_succ n hd
  have hround := roundMag_cases n d
  unfold roundsUp at hround
  have hmono : ∀ {a b}, a ≤ b → units a * d ≤ units b * d := fun h =>
    Nat.mul_le_mul_right d (units_strictMono.monotone h)
  obtain ⟨a, ha, hodd, hmax⟩ : ∃ a, infMag = a + 1 ∧ a % 2 = 1 ∧ units a = (2 ^ 24 - 1) * 2 ^ 253 :=
    ⟨infMag - 1, rfl, by decide, units_infMag_pred⟩
  have htop : units (a + 1) * d = 33554432 * (2 ^ 252 * d) := by rw [← ha, units_infMag]; ring
  replace hmax : units a * d = 33554430 * (2 ^ 252 * d) := by rw [hmax]; ring
  rw [Nat.add_mul, ha] at hround
  rw [Nat.mul_assoc, ha, show 2 ^ 25 - 1 = 33554431 from rfl]
  generalize 2 ^ 252 * d = T at *
  generalize floorMag n d = g at *
  generalize roundMag n d = r at *
  generalize units = f at *
  rcases Nat.lt_trichotomy g a with hlt | heq | hgt
  · have hle := hmono (Nat.succ_le_of_lt hlt)
    rw [Nat.succ_eq_add_one] at hle
    constructor <;> intro h <;> omega
  · rw [heq] at hround hL hU
    constructor <;> intro h <;> omega
  · have hle := hmono (Nat.succ_le_of_lt hgt)
    rw [Nat.succ_eq_add_one] at hle
    constructor <;> intro h <;> omega

/-! ## The exact value of a Num -/

theorem infMag_lt : infMag < 2 ^ 31 := by decide

theorem natAbs_toUnits (x : Num32) : (toUnits x).natAbs = units (mag x) := by
  unfold toUnits
  split <;> omega

theorem toUnits_pack (s : Bool) {g : Nat} (h : g < 2 ^ 31) :
    toUnits (pack s g) = if s then -(units g : Int) else (units g : Int) := by
  unfold toUnits
  rw [neg_pack s h, mag_pack s h]

theorem isFinite_iff (x : Num32) : isFinite x = true ↔ mag x < infMag := decide_eq_true_iff

theorem isFinite_pack (s : Bool) {g : Nat} (h : g < infMag) : isFinite (pack s g) = true := by
  rw [isFinite_iff, mag_pack s (h.trans infMag_lt)]
  exact h

theorem isNaN_of_isFinite {x : Num32} (h : isFinite x = true) : isNaN x = false := by
  rw [isFinite_iff] at h
  exact decide_eq_false (by omega)

theorem isInf_of_isFinite {x : Num32} (h : isFinite x = true) : isInf x = false := by
  rw [isFinite_iff] at h
  exact beq_eq_false_iff_ne.2 h.ne

/-- No finite value is beyond the greatest one. -/
theorem natAbs_toUnits_le {x : Num32} (h : isFinite x = true) : (toUnits x).natAbs ≤ (2 ^ 24 - 1) * 2 ^ 253 := by
  rw [natAbs_toUnits, ← units_infMag_pred]
  rw [isFinite_iff] at h
  exact units_strictMono.monotone (Nat.le_sub_one_of_lt h)

theorem isFinite_neg (x : Num32) : isFinite (neg x) = isFinite x := by
  unfold isFinite neg
  rw [mag_pack _ (mag_lt x)]

theorem toUnits_neg (x : Num32) : toUnits (neg x) = -toUnits x := by
  unfold neg
  rw [toUnits_pack _ (mag_lt x)]
  unfold toUnits
  cases neg? x <;> simp

theorem neg_eq_decide_toUnits {x : Num32} (h : toUnits x ≠ 0) : neg? x = decide (toUnits x < 0) := by
  unfold toUnits at *
  cases hs : neg? x <;> simp only [hs, if_true, Bool.false_eq_true, if_false] at h ⊢
  · exact (decide_eq_false (by omega)).symm
  · exact (decide_eq_true (by omega)).symm

/-- The sign of a product or a quotient. -/
theorem neg_bne_neg {x y : Num32} (hx : toUnits x ≠ 0) (hy : toUnits y ≠ 0) :
    (neg? x != neg? y) = decide (toUnits x * toUnits y < 0) := by
  rw [neg_eq_decide_toUnits hx, neg_eq_decide_toUnits hy, Bool.eq_iff_iff]
  simp only [bne_iff_ne, ne_eq, decide_eq_decide, decide_eq_true_eq, mul_neg_iff]
  omega

/-- The rounding of `n / d` is nearer to it than any value of the other sign, too. -/
theorem roundMag_nearest_signed {n d g : Nat} {t : Int} (hd : 0 < d) (hr : roundMag n d < infMag)
    (ht : t.natAbs = units g) :
    |(units (roundMag n d) * d - n : Int)| ≤ |t * d - n| ∧
    (|(units (roundMag n d) * d - n : Int)| = |t * d - n| → t ≠ units (roundMag n d) → roundMag n d % 2 = 0) := by
  obtain ⟨hle, heven⟩ := roundMag_nearest hd hr g
  rcases le_or_gt 0 t with hpos | hneg
  · obtain rfl : t = units g := by omega
    exact ⟨hle, fun h hne => heven h (by exact_mod_cast hne)⟩
  · have hlt : |(units (roundMag n d) * d - n : Int)| < |t * d - n| := by
      calc |(units (roundMag n d) * d - n : Int)|
          ≤ |(units 0 * d - n : Int)| := (roundMag_nearest hd hr 0).1
        _ = n := by simp
        _ < |t * d - n| := by
          have hneg' : t * d < 0 := mul_neg_of_neg_of_pos hneg (by exact_mod_cast hd)
          rw [Int.abs_eq_natAbs]
          omega
    exact ⟨hlt.le, fun h => absurd h hlt.ne⟩

/-- A magnitude with the sign of `num`, where a zero may have either sign. -/
theorem toUnits_pack_of_sign {s : Bool} {num : Int} {g : Nat} (hg : g < 2 ^ 31) (hs : num ≠ 0 → s = decide (num < 0))
    (h0 : num = 0 → g = 0) :
    (num = num.natAbs ∧ toUnits (pack s g) = units g) ∨ (num = -num.natAbs ∧ toUnits (pack s g) = -(units g : Int)) := by
  rw [toUnits_pack s hg]
  rcases lt_trichotomy num 0 with hneg | hzero | hpos
  · exact .inr ⟨by omega, if_pos (by rw [hs hneg.ne]; exact decide_eq_true hneg)⟩
  · refine .inl ⟨by omega, ?_⟩
    rw [h0 hzero, units_zero]
    cases s <;> rfl
  · exact .inl ⟨by omega, if_neg (by rw [hs hpos.ne']; simp [hpos.le])⟩

end Sys2Proof.Num32

namespace Sys2Proof.Machine

open Num32

/-! ## Correctly rounded results -/

/-- The rounded magnitude with the sign of the exact result is its correctly rounded value. -/
theorem correctlyRounded_pack {s : Bool} {num : Int} {den : Nat} (hd : 0 < den) (hs : num ≠ 0 → s = decide (num < 0)) :
    CorrectlyRounded (pack s (roundMag num.natAbs den)) num den := by
  have hover : roundMag num.natAbs den = infMag ↔ (2 ^ 25 - 1) * 2 ^ 252 * (den : Int) ≤ |num| := by
    rw [roundMag_eq_infMag_iff hd, Int.abs_eq_natAbs, ← Int.ofNat_le]
    push_cast
    rfl
  unfold CorrectlyRounded
  split
  next h =>
    have hinf : roundMag num.natAbs den = infMag := hover.2 h
    have hnum : num ≠ 0 := by
      rintro rfl
      rw [Int.natAbs_zero, roundMag_zero] at hinf
      exact absurd hinf (by decide)
    rw [hinf, hs hnum, inf]
  next h =>
    have hlt : roundMag num.natAbs den < infMag :=
      lt_of_le_of_ne (roundMag_le _ _) fun hinf => h (hover.1 hinf)
    have hlt' := hlt.trans infMag_lt
    refine ⟨isFinite_pack s hlt, fun z _ => ?_⟩
    rw [mag_pack s hlt']
    have hsign := toUnits_pack_of_sign hlt' hs (by rintro rfl; exact roundMag_zero den)
    have hnear := fun t => roundMag_nearest_signed hd hlt (g := mag z) (t := t)
    rcases hsign with ⟨hn, hr⟩ | ⟨hn, hr⟩
    · rw [hr, hn]
      exact hnear _ (natAbs_toUnits z)
    · have habs (u : Int) : |u * den - num| = |-u * den - num.natAbs| := by
        rw [← abs_neg]
        congr 1
        rw [hn, Int.natAbs_neg, Int.natAbs_natCast]
        ring
      rw [habs, habs, hr, neg_neg]
      obtain ⟨hle, heven⟩ := hnear _ ((Int.natAbs_neg _).trans (natAbs_toUnits z))
      exact ⟨hle, fun h hne => heven h (by omega)⟩

end Sys2Proof.Machine

/-! # The four operations -/

namespace Sys2Proof.Machine

open Num32

/-! ## The operations -/

theorem correctlyRounded_addWith (op : NumOp) {x y : Num32} (hx : isFinite x = true) (hy : isFinite y = true) :
    CorrectlyRounded (addWith op x y) (toUnits x + toUnits y) 1 := by
  simp only [addWith, isNaN_of_isFinite hx, isNaN_of_isFinite hy, isInf_of_isFinite hx, isInf_of_isFinite hy,
    Bool.or_self, Bool.false_eq_true, if_false]
  split
  next h =>
    have hzero := correctlyRounded_pack (s := neg? x && neg? y) (num := 0) Nat.one_pos (absurd rfl)
    rwa [Int.natAbs_zero, roundMag_zero, ← h] at hzero
  next h => exact correctlyRounded_pack Nat.one_pos fun _ => rfl

theorem correctlyRounded_add {x y : Num32} (hx : isFinite x = true) (hy : isFinite y = true) :
    CorrectlyRounded (add x y) (toUnits x + toUnits y) 1 := correctlyRounded_addWith .add hx hy

theorem correctlyRounded_sub {x y : Num32} (hx : isFinite x = true) (hy : isFinite y = true) :
    CorrectlyRounded (sub x y) (toUnits x - toUnits y) 1 := by
  rw [sub_eq_add_neg, ← toUnits_neg]
  exact correctlyRounded_addWith .sub hx ((isFinite_neg y).trans hy)

theorem correctlyRounded_mul {x y : Num32} (hx : isFinite x = true) (hy : isFinite y = true) :
    CorrectlyRounded (mul x y) (toUnits x * toUnits y) (2 ^ 149) := by
  simp only [mul, isNaN_of_isFinite hx, isNaN_of_isFinite hy, isInf_of_isFinite hx, isInf_of_isFinite hy,
    Bool.or_self, Bool.false_eq_true, if_false]
  rw [← natAbs_toUnits, ← natAbs_toUnits, ← Int.natAbs_mul]
  exact correctlyRounded_pack (Nat.two_pow_pos 149) fun h =>
    neg_bne_neg (left_ne_zero_of_mul h) (right_ne_zero_of_mul h)

theorem correctlyRounded_div {x y : Num32} (hx : isFinite x = true) (hy : isFinite y = true) (h0 : toUnits y ≠ 0) :
    CorrectlyRounded (div x y) ((toUnits y).sign * toUnits x * 2 ^ 149) (toUnits y).natAbs := by
  have hden : 0 < (toUnits y).natAbs := Int.natAbs_pos.2 h0
  have hmag : (mag y == 0) = false := by
    refine beq_eq_false_iff_ne.2 fun h => h0 ?_
    rw [← Int.natAbs_eq_zero, natAbs_toUnits, h, units_zero]
  simp only [div, isNaN_of_isFinite hx, isNaN_of_isFinite hy, isInf_of_isFinite hx, isInf_of_isFinite hy, hmag,
    Bool.or_self, Bool.false_eq_true, if_false]
  have hnum : units (mag x) * 2 ^ 149 = ((toUnits y).sign * toUnits x * 2 ^ 149).natAbs := by
    rw [Int.natAbs_mul, Int.natAbs_mul, Int.natAbs_sign_of_ne_zero h0, one_mul, natAbs_toUnits]
    rfl
  rw [hnum, ← natAbs_toUnits y]
  refine correctlyRounded_pack hden fun h => ?_
  have hxne : toUnits x ≠ 0 := right_ne_zero_of_mul (left_ne_zero_of_mul h)
  rw [neg_bne_neg hxne h0, decide_eq_decide, ← Int.sign_eq_neg_one_iff_neg, ← Int.sign_eq_neg_one_iff_neg,
    Int.sign_mul, Int.sign_mul, Int.sign_mul, Int.sign_sign, Int.mul_comm (toUnits x).sign,
    show ((2 : Int) ^ 149).sign = 1 from rfl, mul_one]

/-- Settles O55: each operation rounds its exact result once (`correctlyRounded_pack`). -/
theorem arithmeticIsCorrectlyRounded : Obligations.ArithmeticIsCorrectlyRounded := by
  intro x y hx hy
  exact ⟨correctlyRounded_add hx hy, correctlyRounded_sub hx hy, correctlyRounded_mul hx hy,
    correctlyRounded_div hx hy⟩

/-! ## What correct rounding keeps -/

/-- A result between two finite Nums is rounded between them. -/
theorem correctlyRounded_between {r lo hi : Num32} {num : Int} {den : Nat} (h : CorrectlyRounded r num den) (hd : 0 < den)
    (hlo : isFinite lo = true) (hhi : isFinite hi = true) (hle : toUnits lo * den ≤ num) (hge : num ≤ toUnits hi * den) :
    isFinite r = true ∧ toUnits lo ≤ toUnits r ∧ toUnits r ≤ toUnits hi := by
  have hden : (0 : Int) < den := by exact_mod_cast hd
  have hbound {z : Num32} (hz : isFinite z = true) : |toUnits z| * den < (2 ^ 25 - 1) * 2 ^ 252 * den := by
    refine mul_lt_mul_of_pos_right ?_ hden
    rw [Int.abs_eq_natAbs]
    exact lt_of_le_of_lt (Int.ofNat_le.2 (natAbs_toUnits_le hz)) (by norm_num)
  have hsmall : |num| < (2 ^ 25 - 1) * 2 ^ 252 * (den : Int) := by
    rw [abs_lt]
    constructor
    · calc -((2 ^ 25 - 1) * 2 ^ 252 * (den : Int)) < -(|toUnits lo| * den) := neg_lt_neg (hbound hlo)
        _ ≤ toUnits lo * den := by
          rw [← neg_mul]
          exact mul_le_mul_of_nonneg_right (neg_abs_le _) hden.le
        _ ≤ num := hle
    · calc num ≤ toUnits hi * den := hge
        _ ≤ |toUnits hi| * den := mul_le_mul_of_nonneg_right (le_abs_self _) hden.le
        _ < _ := hbound hhi
  rw [CorrectlyRounded, if_neg (not_le.2 hsmall)] at h
  obtain ⟨hr, hnear⟩ := h
  refine ⟨hr, ?_, ?_⟩
  · by_contra! hlt
    have hstep := mul_lt_mul_of_pos_right hlt hden
    refine absurd (hnear lo hlo).1 (not_le.2 ?_)
    rw [abs_of_nonpos (by omega), abs_of_nonpos (by omega)]
    omega
  · by_contra! hlt
    have hstep := mul_lt_mul_of_pos_right hlt hden
    refine absurd (hnear hi hhi).1 (not_le.2 ?_)
    rw [abs_of_nonneg (by omega), abs_of_nonneg (by omega)]
    omega

/-- An exact result that is a finite Num is not changed by rounding. -/
theorem correctlyRounded_exact {r z : Num32} {num : Int} {den : Nat} (h : CorrectlyRounded r num den) (hd : 0 < den)
    (hz : isFinite z = true) (he : num = toUnits z * den) : isFinite r = true ∧ toUnits r = toUnits z := by
  obtain ⟨hr, hle, hge⟩ := correctlyRounded_between h hd hz hz he.ge he.le
  exact ⟨hr, hge.antisymm hle⟩

end Sys2Proof.Machine

/-! # Comparisons and clamps -/

namespace Sys2Proof.Num32

/-! ## The order of the Nums -/

/-- The order of the keys is the order of the exact values. -/
theorem key_lt_key_iff (x y : Num32) : key x < key y ↔ toUnits x < toUnits y := by
  have hxy : units (mag x) < units (mag y) ↔ mag x < mag y := units_strictMono.lt_iff_lt
  have hyx : units (mag y) < units (mag x) ↔ mag y < mag x := units_strictMono.lt_iff_lt
  have hx : 0 < units (mag x) ↔ 0 < mag x := units_strictMono.lt_iff_lt (a := 0)
  have hy : 0 < units (mag y) ↔ 0 < mag y := units_strictMono.lt_iff_lt (a := 0)
  unfold key toUnits
  split <;> split <;> omega

theorem key_le_key_iff (x y : Num32) : key x ≤ key y ↔ toUnits x ≤ toUnits y := by
  rw [← not_lt, ← not_lt, key_lt_key_iff]

theorem key_eq_key_iff (x y : Num32) : key x = key y ↔ toUnits x = toUnits y := by
  rw [le_antisymm_iff, le_antisymm_iff, key_le_key_iff, key_le_key_iff]

section
variable {x y : Num32}

theorem lt_iff_key : lt x y = true ↔ isNaN x = false ∧ isNaN y = false ∧ key x < key y := by
  simp [lt, and_assoc]

theorem le_iff_key : le x y = true ↔ isNaN x = false ∧ isNaN y = false ∧ key x ≤ key y := by
  simp [le, and_assoc]

theorem eq_iff_key : eq x y = true ↔ isNaN x = false ∧ isNaN y = false ∧ key x = key y := by
  simp [eq, and_assoc]

theorem lt_iff_toUnits (hx : isFinite x = true) (hy : isFinite y = true) : lt x y = true ↔ toUnits x < toUnits y := by
  simp [lt_iff_key, key_lt_key_iff, isNaN_of_isFinite hx, isNaN_of_isFinite hy]

theorem le_iff_toUnits (hx : isFinite x = true) (hy : isFinite y = true) : le x y = true ↔ toUnits x ≤ toUnits y := by
  simp [le_iff_key, key_le_key_iff, isNaN_of_isFinite hx, isNaN_of_isFinite hy]

theorem eq_iff_toUnits (hx : isFinite x = true) (hy : isFinite y = true) : eq x y = true ↔ toUnits x = toUnits y := by
  simp [eq_iff_key, key_eq_key_iff, isNaN_of_isFinite hx, isNaN_of_isFinite hy]

/-- A comparison with a NaN is false. -/
theorem comparison_false_of_isNaN (h : isNaN x = true ∨ isNaN y = true) :
    lt x y = false ∧ le x y = false ∧ eq x y = false := by
  rcases h with h | h <;> simp [lt, le, eq, h]

/-- Away from NaNs the order is total. -/
theorem lt_eq_not_le (hx : isNaN x = false) (hy : isNaN y = false) : lt x y = !le y x := by
  simp [lt, le, hx, hy, ← decide_not]

theorem natAbs_key (x : Num32) : (key x).natAbs = mag x := by
  unfold key
  split <;> omega

theorem key_bounds_of_isFinite (h : isFinite x = true) : -(infMag : Int) < key x ∧ key x < infMag := by
  have habs := natAbs_key x
  rw [isFinite_iff] at h
  omega

/-- A Num between two finite ones is finite. -/
theorem isFinite_of_between {lo hi : Num32} (hlo : isFinite lo = true) (hhi : isFinite hi = true)
    (h : le lo x = true) (h' : le x hi = true) : isFinite x = true := by
  obtain ⟨-, -, hl⟩ := le_iff_key.1 h
  obtain ⟨-, -, hh⟩ := le_iff_key.1 h'
  have hL := (key_bounds_of_isFinite hlo).1
  have hH := (key_bounds_of_isFinite hhi).2
  have habs := natAbs_key x
  rw [isFinite_iff]
  omega

end

/-! ## clamp -/

section
variable {x lo hi : Num32}

theorem clamp_of_not_le (h : le lo x = false) : clamp x lo hi = lo := by simp [clamp, ge, h]

theorem clamp_of_lt_lo (h : lt x lo = true) : clamp x lo hi = lo := by
  obtain ⟨hx, hlo, -⟩ := lt_iff_key.1 h
  exact clamp_of_not_le (by simpa [lt_eq_not_le hx hlo] using h)

theorem clamp_of_hi_lt (hle : le lo hi = true) (h : lt hi x = true) : clamp x lo hi = hi := by
  obtain ⟨hlo, -, hkey⟩ := le_iff_key.1 hle
  obtain ⟨-, hx, hkey'⟩ := lt_iff_key.1 h
  have hge : le lo x = true := le_iff_key.2 ⟨hlo, hx, by omega⟩
  simp [clamp, ge, gt, hge, h]

theorem clamp_of_between (h : le lo x = true) (h' : le x hi = true) : clamp x lo hi = x := by
  obtain ⟨hx, hhi, -⟩ := le_iff_key.1 h'
  simp [clamp, ge, gt, h, h', lt_eq_not_le hhi hx]

/-- A clamp gives its lower bound, its upper bound, or its operand, which then lies between them. -/
theorem clamp_cases (x : Num32) (hle : le lo hi = true) :
    clamp x lo hi = lo ∨ clamp x lo hi = hi ∨ (clamp x lo hi = x ∧ le lo x = true ∧ le x hi = true) := by
  obtain ⟨-, hhi, -⟩ := le_iff_key.1 hle
  cases h : le lo x
  case false => exact .inl (clamp_of_not_le h)
  case true =>
    obtain ⟨-, hx, -⟩ := le_iff_key.1 h
    cases h' : le x hi
    case false => exact .inr (.inl (clamp_of_hi_lt hle (by simp [lt_eq_not_le hhi hx, h'])))
    case true => exact .inr (.inr ⟨clamp_of_between h h', rfl, rfl⟩)

theorem le_self (h : isNaN x = false) : le x x = true := le_iff_key.2 ⟨h, h, le_rfl⟩

/-- A clamp stays between its bounds, whatever its operand. -/
theorem clamp_between (x : Num32) (hle : le lo hi = true) :
    le lo (clamp x lo hi) = true ∧ le (clamp x lo hi) hi = true := by
  obtain ⟨hlo, hhi, -⟩ := le_iff_key.1 hle
  rcases clamp_cases x hle with h | h | ⟨h, hl, hh⟩ <;> rw [h]
  · exact ⟨le_self hlo, hle⟩
  · exact ⟨hle, le_self hhi⟩
  · exact ⟨hl, hh⟩

theorem isNaN_inf (s : Bool) : isNaN (inf s) = false := by cases s <;> decide

theorem lt_inf (h : isFinite x = true) : lt x (inf false) = true :=
  lt_iff_key.2 ⟨isNaN_of_isFinite h, isNaN_inf _, (key_bounds_of_isFinite h).2⟩

theorem inf_lt (h : isFinite x = true) : lt (inf true) x = true :=
  lt_iff_key.2 ⟨isNaN_inf _, isNaN_of_isFinite h, (key_bounds_of_isFinite h).1⟩

/-- -0.0 is no less than 0.0, and is taken as 0.0 is by the upper bound. -/
theorem clamp_negZero (h : isNaN hi = false) :
    clamp 0x80000000#32 zero hi = if le zero hi then 0x80000000#32 else hi := by
  have hkey : key 0x80000000#32 = key zero := by decide
  have hlt : lt hi 0x80000000#32 = !le zero hi := by
    rw [lt_eq_not_le h (by decide)]
    simp [le, hkey, show isNaN 0x80000000#32 = isNaN zero by decide]
  rw [clamp, ge, gt, hlt, show le zero 0x80000000#32 = true by decide]
  cases le zero hi <;> rfl

end

end Sys2Proof.Num32

namespace Sys2Proof.Machine

open Num32

/-- Settles O56: the keys that a comparison looks at are ordered as the exact values are. -/
theorem comparisonsAreExact : Obligations.ComparisonsAreExact := by
  intro x y
  refine ⟨fun hx hy => ?_, fun h => ?_⟩
  · simp only [gt, ge, Bool.eq_iff_iff (b := decide _), decide_eq_true_eq]
    exact ⟨lt_iff_toUnits hx hy, le_iff_toUnits hx hy, eq_iff_toUnits hx hy, lt_iff_toUnits hy hx, le_iff_toUnits hy hx⟩
  · obtain ⟨hlt, hle, heq⟩ := comparison_false_of_isNaN h
    obtain ⟨hgt, hge, -⟩ := comparison_false_of_isNaN h.symm
    exact ⟨hlt, hle, heq, hgt, hge⟩

/-- Settles O57, from the three outcomes of a clamp. -/
theorem clampStaysBetweenItsBounds : Obligations.ClampStaysBetweenItsBounds := by
  intro x lo hi hlo hhi hle
  obtain ⟨hge, hle'⟩ := clamp_between x hle
  have hnan (h : isNaN x = true) : clamp x lo hi = lo := by
    obtain ⟨-, hfalse, -⟩ := comparison_false_of_isNaN (x := lo) (.inr h)
    exact clamp_of_not_le hfalse
  exact ⟨hnan, clamp_of_lt_lo, clamp_of_hi_lt hle,
    clamp_of_hi_lt hle (lt_inf hhi), clamp_of_lt_lo (inf_lt hlo), clamp_of_between, clamp_negZero (isNaN_of_isFinite hhi),
    hge, hle'⟩

end Sys2Proof.Machine

/-! # Exact results: toNum, floor and the phase wrap -/

namespace Sys2Proof.Num32

/-! ## Exact results -/

/-- A whole number of 24 bits, scaled by a power of two, is a Num unless it is beyond the finite ones. -/
theorem exists_toUnits_eq {k : Int} {m j : Nat} (hk : k.natAbs = m * 2 ^ j) (hm : m ≤ 2 ^ 24)
    (hlt : k.natAbs < units infMag) : ∃ z, isFinite z = true ∧ toUnits z = k := by
  obtain ⟨g, hg⟩ := exists_units_eq j hm
  rw [← hk] at hg
  have hfin : g < infMag := units_strictMono.lt_iff_lt.1 (hg ▸ hlt)
  refine ⟨pack (decide (k < 0)) g, isFinite_pack _ hfin, ?_⟩
  rw [toUnits_pack _ (hfin.trans infMag_lt), hg]
  by_cases h : k < 0 <;> simp only [h, decide_true, decide_false, if_true, Bool.false_eq_true, if_false] <;> omega

/-- The significand and the exponent of a finite value. -/
theorem toUnits_natAbs_binade (x : Num32) : ∃ m j, (toUnits x).natAbs = m * 2 ^ j ∧ m < 2 ^ 24 := by
  obtain ⟨e, m, hg, hm, he⟩ := exists_binade (mag x)
  exact ⟨m, e, by rw [natAbs_toUnits, hg, units_binade hm.le he], hm⟩

theorem natAbs_toUnits_lt {x : Num32} (h : isFinite x = true) : (toUnits x).natAbs < units infMag := by
  rw [natAbs_toUnits]
  exact units_strictMono ((isFinite_iff x).1 h)

end Sys2Proof.Num32

namespace Sys2Proof.Machine

open Num32

theorem correctlyRounded_ofInt (i : Int) : CorrectlyRounded (ofInt i) (i * 2 ^ 149) 1 := by
  have hsign : decide (i < 0) = decide (i * 2 ^ 149 < 0) := by
    rw [decide_eq_decide, ← Int.sign_eq_neg_one_iff_neg, ← Int.sign_eq_neg_one_iff_neg, Int.sign_mul,
      show ((2 : Int) ^ 149).sign = 1 from rfl, mul_one]
  have hnum : i.natAbs * 2 ^ 149 = (i * 2 ^ 149).natAbs := by rw [Int.natAbs_mul]; rfl
  rw [ofInt, hsign, hnum]
  exact correctlyRounded_pack Nat.one_pos fun _ => rfl

/-- toNum is exact up to 24 bits (00_scope.md R5). -/
theorem ofInt_exact {i : Int} (hi : |i| ≤ 2 ^ 24) : isFinite (ofInt i) = true ∧ toUnits (ofInt i) = i * 2 ^ 149 := by
  have hm : i.natAbs ≤ 2 ^ 24 := by rw [Int.abs_eq_natAbs] at hi; exact_mod_cast hi
  have hk : (i * 2 ^ 149).natAbs = i.natAbs * 2 ^ 149 := by rw [Int.natAbs_mul]; rfl
  have hlt : (i * 2 ^ 149).natAbs < units infMag := by
    rw [hk, units_infMag]
    exact lt_of_le_of_lt (Nat.mul_le_mul_right _ hm) (by norm_num)
  obtain ⟨z, hz, hzi⟩ := exists_toUnits_eq hk hm hlt
  rw [← hzi]
  exact correctlyRounded_exact (correctlyRounded_ofInt i) Nat.one_pos hz (by rw [hzi]; simp)

/-- Settles O58: a number of 24 bits scaled by 2^149 is a Num, and rounding keeps it. -/
theorem integersConvertExactly : Obligations.IntegersConvertExactly := fun _ => ofInt_exact

/-! ## The phase wrap -/

/-- The whole part and the fraction of a value keep its 24 bits. -/
theorem whole_and_fraction_binade {u m j : Nat} (hu : u = m * 2 ^ j) :
    (∃ m' j', u / 2 ^ 149 * 2 ^ 149 = m' * 2 ^ j' ∧ m' ≤ m) ∧ (∃ m' j', u % 2 ^ 149 = m' * 2 ^ j' ∧ m' ≤ m) := by
  rcases Nat.le_total 149 j with hj | hj
  · have hdvd : 2 ^ 149 ∣ u := hu ▸ Dvd.dvd.mul_left (Nat.pow_dvd_pow 2 hj) m
    exact ⟨⟨m, j, (Nat.div_mul_cancel hdvd).trans hu, le_rfl⟩,
      ⟨0, j, by rw [Nat.mod_eq_zero_of_dvd hdvd, Nat.zero_mul], Nat.zero_le m⟩⟩
  · have hsplit : 2 ^ 149 = 2 ^ (149 - j) * 2 ^ j := by rw [← pow_add, Nat.sub_add_cancel hj]
    refine ⟨⟨m / 2 ^ (149 - j), 149, ?_, Nat.div_le_self _ _⟩, ⟨m % 2 ^ (149 - j), j, ?_, Nat.mod_le _ _⟩⟩
    · rw [hu, hsplit, Nat.mul_div_mul_right _ _ (Nat.two_pow_pos j)]
    · rw [hu, hsplit, Nat.mul_mod_mul_right]

/-- Splitting a finite value at the binary point gives two finite values. -/
theorem exists_whole_and_fraction {x : Num32} (hx : isFinite x = true) (h0 : 0 ≤ toUnits x) :
    (∃ z, isFinite z = true ∧ toUnits z = toUnits x / 2 ^ 149 * 2 ^ 149) ∧
    (∃ z, isFinite z = true ∧ toUnits z = toUnits x % 2 ^ 149) := by
  obtain ⟨m, j, hu, hm⟩ := toUnits_natAbs_binade x
  have hlt := natAbs_toUnits_lt hx
  obtain ⟨⟨mw, jw, hw, hmw⟩, ⟨mf, jf, hf, hmf⟩⟩ := whole_and_fraction_binade hu
  have hwhole : (toUnits x / 2 ^ 149 * 2 ^ 149).natAbs = (toUnits x).natAbs / 2 ^ 149 * 2 ^ 149 := by omega
  have hfrac : (toUnits x % 2 ^ 149).natAbs = (toUnits x).natAbs % 2 ^ 149 := by omega
  exact ⟨exists_toUnits_eq (hwhole.trans hw) (hmw.trans hm.le) (hwhole ▸ (Nat.div_mul_le_self _ _).trans_lt hlt),
    exists_toUnits_eq (hfrac.trans hf) (hmf.trans hm.le) (hfrac ▸ (Nat.mod_le _ _).trans_lt hlt)⟩

/-- floor is exact on the finite values from 0 on (42_oscillator.md R189). -/
theorem floor_exact {x : Num32} (hx : isFinite x = true) (h0 : 0 ≤ toUnits x) :
    isFinite (floor x) = true ∧ toUnits (floor x) = toUnits x / 2 ^ 149 * 2 ^ 149 := by
  simp only [floor, isNaN_of_isFinite hx, isInf_of_isFinite hx, Bool.false_eq_true, if_false]
  split
  next hk =>
    rw [hk]
    exact ⟨isFinite_pack _ (by decide), by rw [toUnits_pack _ (by decide)]; cases neg? x <;> rfl⟩
  next =>
    obtain ⟨⟨z, hz, hzx⟩, -⟩ := exists_whole_and_fraction hx h0
    rw [← hzx]
    exact correctlyRounded_exact (correctlyRounded_ofInt _) Nat.one_pos hz (by rw [hzx]; simp)

/-- The wrap is the exact fractional part (42_oscillator.md R189). -/
theorem wrapPhase_exact {x : Num32} (hx : isFinite x = true) (h0 : 0 ≤ toUnits x) :
    isFinite (wrapPhase x) = true ∧ toUnits (wrapPhase x) = toUnits x % 2 ^ 149 := by
  obtain ⟨hfin, hfl⟩ := floor_exact hx h0
  obtain ⟨-, ⟨z, hz, hzx⟩⟩ := exists_whole_and_fraction hx h0
  rw [← hzx]
  refine correctlyRounded_exact (correctlyRounded_sub hx hfin) Nat.one_pos hz ?_
  rw [hfl, hzx, Int.emod_def]
  simp [mul_comm]

theorem isFinite_zero : isFinite zero = true := by decide

theorem isFinite_one : isFinite one = true := by decide

theorem toUnits_zero : toUnits zero = 0 := by decide

theorem toUnits_one : toUnits one = 2 ^ 149 := by decide +kernel

/-- The phases are the finite values from 0 to below 1. -/
theorem inPhase_iff {x : Num32} (hx : isFinite x = true) : inPhase x ↔ 0 ≤ toUnits x ∧ toUnits x < 2 ^ 149 := by
  rw [inPhase, le_iff_toUnits isFinite_zero hx, lt_iff_toUnits hx isFinite_one, toUnits_zero, toUnits_one]

theorem isFinite_of_inPhase {x : Num32} (h : inPhase x) : isFinite x = true := by
  obtain ⟨hx, h1, hkey⟩ := lt_iff_key.1 h.2
  exact isFinite_of_between isFinite_zero isFinite_one h.1 (le_iff_key.2 ⟨hx, h1, hkey.le⟩)

/-- A wrapped phase is a phase. -/
theorem inPhase_wrapPhase {x : Num32} (hx : isFinite x = true) (h0 : 0 ≤ toUnits x) : inPhase (wrapPhase x) := by
  obtain ⟨hfin, hval⟩ := wrapPhase_exact hx h0
  rw [inPhase_iff hfin, hval]
  exact ⟨Int.emod_nonneg _ (by positivity), Int.emod_lt_of_pos _ (by positivity)⟩

end Sys2Proof.Machine

/-! # Whole bounds, and the pitch pipeline within them -/

namespace Sys2Proof.Machine

open Num32

/-! ## Whole bounds -/

/-- A finite Num between two whole numbers. -/
def within (lo hi : Int) (x : Num32) : Prop :=
  isFinite x = true ∧ lo * 2 ^ 149 ≤ toUnits x ∧ toUnits x ≤ hi * 2 ^ 149

/-- Bounds of at most 24 bits are what toNum and the comparisons make of them. -/
theorem within_iff {lo hi : Int} {x : Num32} (hlo : |lo| ≤ 2 ^ 24) (hhi : |hi| ≤ 2 ^ 24) :
    within lo hi x ↔ le (ofInt lo) x = true ∧ le x (ofInt hi) = true := by
  obtain ⟨hfl, hl⟩ := ofInt_exact hlo
  obtain ⟨hfh, hh⟩ := ofInt_exact hhi
  constructor
  · rintro ⟨hx, hle, hge⟩
    rw [le_iff_toUnits hfl hx, le_iff_toUnits hx hfh, hl, hh]
    exact ⟨hle, hge⟩
  · rintro ⟨hle, hge⟩
    have hx := isFinite_of_between hfl hfh hle hge
    rw [le_iff_toUnits hfl hx, hl] at hle
    rw [le_iff_toUnits hx hfh, hh] at hge
    exact ⟨hx, hle, hge⟩

theorem within_mono {a b c d : Int} {x : Num32} (h : within a b x) (hca : c ≤ a) (hbd : b ≤ d) : within c d x := by
  obtain ⟨hx, hle, hge⟩ := h
  exact ⟨hx, by omega, by omega⟩

/-- A result between whole bounds is rounded between them. -/
theorem within_of_correctlyRounded {lo hi num : Int} {den : Nat} {r : Num32} (h : CorrectlyRounded r num den)
    (hd : 0 < den) (hlo : |lo| ≤ 2 ^ 24) (hhi : |hi| ≤ 2 ^ 24) (hle : lo * 2 ^ 149 * den ≤ num)
    (hge : num ≤ hi * 2 ^ 149 * den) : within lo hi r := by
  obtain ⟨hfl, hl⟩ := ofInt_exact hlo
  obtain ⟨hfh, hh⟩ := ofInt_exact hhi
  rw [← hl] at hle
  rw [← hh] at hge
  obtain ⟨hr, hle', hge'⟩ := correctlyRounded_between h hd hfl hfh hle hge
  exact ⟨hr, hl ▸ hle', hh ▸ hge'⟩

theorem within_ofInt {i : Int} (hi : |i| ≤ 2 ^ 24) : within i i (ofInt i) := by
  obtain ⟨hf, hv⟩ := ofInt_exact hi
  exact ⟨hf, hv.ge, hv.le⟩

section
variable {a b c d : Int} {x y : Num32}

theorem within_add (hx : within a b x) (hy : within c d y) (hlo : |a + c| ≤ 2 ^ 24) (hhi : |b + d| ≤ 2 ^ 24) :
    within (a + c) (b + d) (add x y) := by
  obtain ⟨hfx, hxl, hxh⟩ := hx
  obtain ⟨hfy, hyl, hyh⟩ := hy
  refine within_of_correctlyRounded (correctlyRounded_add hfx hfy) Nat.one_pos hlo hhi ?_ ?_
  · rw [Nat.cast_one]; linarith
  · rw [Nat.cast_one]; linarith

/-- A product of two values from 0 on. -/
theorem within_mul_nonneg (hx : within 0 b x) (hy : within 0 d y) (hhi : |b * d| ≤ 2 ^ 24) :
    within 0 (b * d) (mul x y) := by
  obtain ⟨hfx, hxl, hxh⟩ := hx
  obtain ⟨hfy, hyl, hyh⟩ := hy
  rw [zero_mul] at hxl hyl
  refine within_of_correctlyRounded (correctlyRounded_mul hfx hfy) (Nat.two_pow_pos 149) (by decide) hhi ?_ ?_
  · rw [zero_mul, zero_mul]
    exact mul_nonneg hxl hyl
  · calc toUnits x * toUnits y ≤ (b * 2 ^ 149) * (d * 2 ^ 149) := mul_le_mul hxh hyh hyl (hxl.trans hxh)
      _ = b * d * 2 ^ 149 * (2 ^ 149 : Nat) := by push_cast; ring

/-- A product with a whole number above 0. -/
theorem within_mul_ofInt {k : Int} (hx : within a b x) (hk : 0 < k) (hk' : |k| ≤ 2 ^ 24) (hlo : |a * k| ≤ 2 ^ 24)
    (hhi : |b * k| ≤ 2 ^ 24) : within (a * k) (b * k) (mul x (ofInt k)) := by
  obtain ⟨hfx, hxl, hxh⟩ := hx
  obtain ⟨hfk, hv⟩ := ofInt_exact hk'
  have hpos : 0 ≤ k * 2 ^ 149 := by positivity
  refine within_of_correctlyRounded (correctlyRounded_mul hfx hfk) (Nat.two_pow_pos 149) hlo hhi ?_ ?_ <;> rw [hv]
  · calc a * k * 2 ^ 149 * (2 ^ 149 : Nat) = a * 2 ^ 149 * (k * 2 ^ 149) := by push_cast; ring
      _ ≤ _ := mul_le_mul_of_nonneg_right hxl hpos
  · calc toUnits x * (k * 2 ^ 149) ≤ b * 2 ^ 149 * (k * 2 ^ 149) := mul_le_mul_of_nonneg_right hxh hpos
      _ = _ := by push_cast; ring

/-- A quotient by a whole number above 0. -/
theorem within_div_ofInt {k : Int} (hx : within a b x) (hk : 0 < k) (hk' : |k| ≤ 2 ^ 24) (hlo : |c| ≤ 2 ^ 24)
    (hhi : |d| ≤ 2 ^ 24) (hca : c * k ≤ a) (hbd : b ≤ d * k) : within c d (div x (ofInt k)) := by
  obtain ⟨hfx, hxl, hxh⟩ := hx
  obtain ⟨hfk, hv⟩ := ofInt_exact hk'
  have hpos : 0 < toUnits (ofInt k) := by rw [hv]; positivity
  have hden : ((toUnits (ofInt k)).natAbs : Int) = k * 2 ^ 149 := by omega
  have hround := correctlyRounded_div hfx hfk hpos.ne'
  rw [Int.sign_eq_one_of_pos hpos, one_mul] at hround
  refine within_of_correctlyRounded hround (by omega) hlo hhi ?_ ?_ <;> rw [hden]
  · calc c * 2 ^ 149 * (k * 2 ^ 149) = c * k * 2 ^ 149 * 2 ^ 149 := by ring
      _ ≤ toUnits x * 2 ^ 149 := by gcongr; exact le_trans (by gcongr) hxl
  · calc toUnits x * 2 ^ 149 ≤ d * k * 2 ^ 149 * 2 ^ 149 := by gcongr; exact hxh.trans (by gcongr)
      _ = d * 2 ^ 149 * (k * 2 ^ 149) := by ring

end

/-! ## The pitch pipeline -/

/-- EXP2 between -6 and 6 is between 0 and 128 (00_scope.md R6). -/
theorem within_exp2 {x : Num32} (h : within (-6) 6 x) : within 0 128 (Config.hw.exp2 x) := by
  obtain ⟨hl, hh⟩ := (within_iff (by decide) (by decide)).1 h
  obtain ⟨hpos, hlt⟩ := exp2_finite hl hh
  obtain ⟨hz, hx, hkey⟩ := lt_iff_key.1 hpos
  obtain ⟨-, hN, hkey'⟩ := lt_iff_key.1 hlt
  refine (within_iff (by decide) (by decide)).2 ⟨?_, le_iff_key.2 ⟨hx, hN, hkey'.le⟩⟩
  rw [show ofInt 0 = zero by decide +kernel]
  exact le_iff_key.2 ⟨hz, hx, hkey.le⟩

theorem within_freq (n : Data7) : within 0 56320 (freq Config.hw n) := by
  have hn := n.isLt
  have hnote : within ((n.toNat : Int) - 69) ((n.toNat : Int) - 69) (ofInt ((n.toNat : Int) - 69)) :=
    within_ofInt (by rw [abs_le]; omega)
  have harg := within_div_ofInt (c := -6) (d := 6) (k := 12) hnote (by decide) (by decide) (by decide) (by decide)
    (by omega) (by omega)
  exact within_mul_nonneg (within_mono (within_ofInt (i := 440) (by decide)) (by decide) le_rfl) (within_exp2 harg)
    (by decide)

theorem within_bendOf (v : BitVec 14) : within (-1) 1 (bendOf v) := by
  have hv := v.isLt
  exact within_div_ofInt (within_ofInt (by rw [abs_le]; omega)) (by decide) (by decide) (by decide) (by decide)
    (by omega) (by omega)

theorem within_pitchMul (v : BitVec 14) : within 0 128 (pitchMul Config.hw (bendOf v)) := by
  have htwo := within_mul_ofInt (k := 2) (within_bendOf v) (by decide) (by decide) (by decide) (by decide)
  exact within_exp2 (within_div_ofInt htwo (by decide) (by decide) (by decide) (by decide) (by decide) (by decide))

/-- The phase advances by at most 164 periods in a tick, whatever EXP2 is. -/
theorem within_phaseInc (v : BitVec 14) (n : Data7) :
    within 0 164 (phaseInc Config.hw (pitchMul Config.hw (bendOf v)) n) :=
  within_div_ofInt (k := 44100) (within_mul_nonneg (within_freq n) (within_pitchMul v) (by decide)) (by decide) (by decide)
    (by decide) (by decide) (by decide) (by decide)

/-- PhaseAdvance leaves a phase in [0, 1) (42_oscillator.md R189). -/
theorem inPhase_advance {p : Num32} (hp : inPhase p) (v : BitVec 14) (n : Data7) :
    inPhase (wrapPhase (add p (phaseInc Config.hw (pitchMul Config.hw (bendOf v)) n))) := by
  have hfin := isFinite_of_inPhase hp
  obtain ⟨h0, h1⟩ := (inPhase_iff hfin).1 hp
  have hp' : within 0 1 p := ⟨hfin, by omega, by omega⟩
  obtain ⟨hf, hl, -⟩ := within_add hp' (within_phaseInc v n) (by decide) (by decide)
  exact inPhase_wrapPhase hf (by omega)

end Sys2Proof.Machine

/-! # Effects of the instructions, and the step that keeps phases and bends -/

namespace Sys2Proof.Machine

/-! ## What an instruction can do to the block -/

/-- The changes of the block that the instructions make. -/
inductive Effect (b : Block) : Block → Prop
  | keep : Effect b b
  | status (s : Byte) : Effect b (onStatus s b)
  | data (d : Data7) : Effect b (onData d b)
  | event (e : Event) : Effect b (enqueue e b)
  | bend (v : BitVec 14) : Effect b { b with pitchBend := bendOf v }
  | param (p : Param) (d : Word) : Effect b (writeParam p d b)
  | waveform (d : Word) : Effect b { b with waveform := d }
  | reset : Effect b (Block.reset Config.hw)
  | tick (draws : Nat) : Effect b (tick Config.hw b draws).block

section
variable {f : Block → Block} {s t : State}

theorem Effect.of_accept (h : accept f s = .next t) (hf : Effect s.block (f s.block)) : Effect s.block t.block := by
  rcases accept_next h with ⟨-, rfl⟩ | ⟨-, rfl⟩
  · exact .keep
  · exact hf

theorem Effect.of_silent (h : silent f s = .next t) (hf : Effect s.block (f s.block)) : Effect s.block t.block := by
  rw [silent_next h]
  exact hf

theorem Effect.of_respond {w : Word} (h : respond w s = .next t) : Effect s.block t.block := by
  rw [respond_next h]
  exact .keep

end

theorem Effect.of_parseByte (x : Byte) (b : Block) : Effect b (parseByte x b) := by
  rcases parseByte_cases x b with ⟨-, h⟩ | ⟨-, -, h⟩ | ⟨-, h⟩ <;> rw [h]
  · exact .keep
  · exact .status x
  · exact .data _

theorem Effect.of_noteOnMsg (d1 d2 : Data7) (b : Block) : Effect b (noteOnMsg d1 d2 b) := by
  unfold noteOnMsg
  split <;> exact .event _

/-- Every instruction makes one of those changes. -/
theorem exec_effect {i : Instr} {s t : State} (h : exec i s = .next t) : Effect s.block t.block := by
  cases i with
  | byteIn b => exact .of_accept h (.of_parseByte b _)
  | byteData v => exact .of_accept h (.data v)
  | byteStatusNoteoff | byteStatusNoteon | byteStatusA0 | byteStatusB0 | byteStatusC0 | byteStatusD0
  | byteStatusPitchbend | byteStatusF0 | byteStatusCh1 | byteStatusCh2to3 | byteStatusCh4to7 | byteStatusCh8to15T8toB
  | byteStatusCh8to15TCtoD | byteStatusCh8to15TE => exact .of_accept h (.status _)
  | byteRealtime | msgOtherChannel | msgUnrecognized => exact .of_accept h .keep
  | msgNoteonVel0 d1 => exact .of_accept h (.of_noteOnMsg d1 _ _)
  | msgNoteon d1 d2 => exact .of_accept h (.of_noteOnMsg d1 d2 _)
  | msgNoteoff => exact .of_accept h (.event _)
  | msgPitchbend => exact .of_accept h (.bend _)
  | wrCutoff | wrResonance | wrAttack | wrDecay | wrSustain | wrRelease => exact .of_silent h (.param _ _)
  | wrWaveform d => exact .of_silent (f := fun b => { b with waveform := d }) h (.waveform d)
  | wrIgnored07 | wrIgnored08to0F | wrIgnored10to1F | wrIgnored20to3F | wrIgnored40to7F | wrIgnored80toFF
  | txnReserved0 | txnReserved5 | txnReserved6to7 | txnReserved8toB | txnReservedCtoD | txnReservedE =>
    exact .of_silent (f := fun b => b) h .keep
  | rdCutoff | rdResonance | rdAttack | rdDecay | rdSustain | rdRelease | rdWaveform | rdPitchbend | rdStatus0
  | rdStatus1 | rdVoice | rdReserved0Ato0B | rdReserved0Cto0F | rdReserved20to3F | rdReserved40to7F
  | rdReserved80toFF => exact .of_respond h
  | sampleTick =>
    injection h with h
    rw [← h]
    exact .tick s.draws
  | reset => exact .of_silent (f := fun _ => Block.reset Config.hw) h .reset

/-- Every step leaves the block as it was or makes one of those changes. -/
theorem step_effect {s t : State} (h : step s = .next t) : Effect s.block t.block := by
  rcases step_block h with hb | ⟨w, i, u, -, he, hb⟩ <;> rw [hb]
  · exact .keep
  · exact exec_effect he

/-! ## Phases and bends -/

/-- What phases and bends need of the block, together. -/
def PitchOk (b : Block) : Prop := BendOk b ∧ PhasesOk b

/-- Only PITCHBEND, its latch and the voices matter. -/
theorem PitchOk.congr {b b' : Block} (h : PitchOk b) (hpb : b'.pitchBend = b.pitchBend) (hl : b'.pbLatch = b.pbLatch)
    (hv : b'.voices = b.voices) : PitchOk b' := by
  obtain ⟨hb, hp⟩ := h
  exact ⟨by rwa [BendOk, hpb, hl], by rwa [PhasesOk, hv]⟩

theorem pitchOk_setBend {b : Block} (h : PitchOk b) (v : BitVec 14) : PitchOk { b with pitchBend := bendOf v } := by
  obtain ⟨⟨-, hl⟩, hp⟩ := h
  exact ⟨⟨⟨v, rfl⟩, hl⟩, hp⟩

theorem pitchOk_onData {b : Block} (h : PitchOk b) (d : Data7) : PitchOk (onData d b) := by
  rcases onData_cases d b with ⟨-, hd⟩ | ⟨st, -, hd⟩ | ⟨st, d1, -, hd⟩ <;> rw [hd]
  · exact h
  · exact h.congr rfl rfl rfl
  · rcases complete_cases st d1 d { b with pst := .expectingData1 st } with ⟨e, hc⟩ | hc | hc <;> rw [hc]
    · exact h.congr rfl rfl rfl
    · exact pitchOk_setBend (h.congr rfl rfl rfl) _
    · exact h.congr rfl rfl rfl

theorem inPhase_zero : inPhase Num32.zero := by unfold inPhase; decide

/-- The centre bend is what PITCHBEND holds after RESET. -/
theorem bendOf_center : bendOf 8192#14 = Num32.zero := by decide +kernel

theorem pitchOk_reset : PitchOk (Block.reset Config.hw) := by
  refine ⟨⟨⟨8192#14, bendOf_center.symm⟩, ⟨8192#14, bendOf_center.symm⟩⟩, fun i => ?_⟩
  fin_cases i <;> exact inPhase_zero

/-! ### The block start -/

theorem pitchOk_applyEvent {b : Block} (h : PitchOk b) (e : Event) : PitchOk (applyEvent e b) := by
  obtain ⟨hb, hp⟩ := h
  refine ⟨by rwa [BendOk, applyEvent_pitchBend, applyEvent_pbLatch], fun i => ?_⟩
  cases e with
  | noteOn n =>
    change inPhase ((applyNoteOn n b).voices.get i).phase
    rw [applyNoteOn_voices]
    by_cases hi : i = b.cursor
    · rw [hi, Pool.get_set_same]
      exact inPhase_zero
    · rw [Pool.get_set_ne _ _ hi]
      exact hp i
  | noteOff n =>
    change inPhase ((applyNoteOff n b).voices.get i).phase
    obtain ⟨-, -, hphase, -⟩ := releaseIfHolds_keeps n (b.voices.get i)
    rw [applyNoteOff_voices, Pool.get_map, hphase]
    exact hp i

theorem pitchOk_drainEntry {d : Drained} (h : PitchOk d.block) (c : Config) (e : Entry) :
    PitchOk (drainEntry c d e).block := by
  rcases drainEntry_cases c d e with hd | hd | hd <;> rw [hd]
  · exact pitchOk_applyEvent h _
  · exact h.congr rfl rfl rfl
  · exact h

theorem pitchOk_foldl_drainEntry (c : Config) (q : List Entry) {d : Drained} (h : PitchOk d.block) :
    PitchOk (q.foldl (drainEntry c) d).block := by
  induction q generalizing d with
  | nil => exact h
  | cons e q ih => exact ih (pitchOk_drainEntry h c e)

theorem pitchOk_latchSnapshot {b : Block} (h : PitchOk b) : PitchOk (latchSnapshot b) := by
  obtain ⟨⟨hpb, -⟩, hp⟩ := h
  exact ⟨⟨hpb, hpb⟩, hp⟩

theorem pitchOk_blockStart {d : Drained} (h : PitchOk d.block) (c : Config) : PitchOk (blockStart c d).block := by
  unfold blockStart
  split
  · exact pitchOk_latchSnapshot (pitchOk_foldl_drainEntry c d.block.evq (h.congr rfl rfl rfl))
  · exact h

/-! ### The sample -/

/-- A voice's turn keeps every phase in [0, 1), under a bend. -/
theorem inPhase_voiceTurn {l : Live} {wf : Word} {m : Mixing} (v : BitVec 14)
    (h : ∀ j, inPhase (m.voices.get j).phase) (i j : Fin 4) :
    inPhase ((voiceTurn Config.hw l wf (pitchMul Config.hw (bendOf v)) m i).voices.get j).phase := by
  by_cases hj : j = i
  · rw [hj, voiceTurn_get_same]
    split
    · obtain ⟨-, -, -, -, hphase⟩ := voiceSample_fields Config.hw l wf (pitchMul Config.hw (bendOf v)) (m.voices.get i)
      rw [hphase]
      exact inPhase_advance (h i) v _
    · exact h i
  · rw [voiceTurn_get_ne _ _ _ _ _ hj]
    exact h j

theorem inPhase_foldl_voiceTurn {l : Live} {wf : Word} (v : BitVec 14) (is : List (Fin 4)) {m : Mixing}
    (h : ∀ j, inPhase (m.voices.get j).phase) (j : Fin 4) :
    inPhase ((is.foldl (voiceTurn Config.hw l wf (pitchMul Config.hw (bendOf v))) m).voices.get j).phase := by
  induction is generalizing m with
  | nil => exact h j
  | cons i is ih => exact ih (inPhase_voiceTurn v h i)

section
variable (c : Config) (b : Block) (draws : Nat)

theorem tick_pitchBend :
    (tick c b draws).block.pitchBend = (blockStart c { block := b, draws := draws }).block.pitchBend := by
  simp only [tick]

theorem tick_pbLatch :
    (tick c b draws).block.pbLatch = (blockStart c { block := b, draws := draws }).block.pbLatch := by
  simp only [tick]

theorem tick_voices :
    (tick c b draws).block.voices = (renderVoices c (blockStart c { block := b, draws := draws }).block).voices := by
  simp only [tick]

end

theorem pitchOk_tick {b : Block} (h : PitchOk b) (draws : Nat) : PitchOk (tick Config.hw b draws).block := by
  have hstart : PitchOk (blockStart Config.hw { block := b, draws := draws }).block := pitchOk_blockStart h Config.hw
  rw [PitchOk, BendOk, PhasesOk, tick_pitchBend, tick_pbLatch, tick_voices]
  generalize (blockStart Config.hw { block := b, draws := draws }).block = b' at hstart ⊢
  obtain ⟨⟨hpb, v, hv⟩, hp⟩ := hstart
  refine ⟨⟨hpb, v, hv⟩, fun j => ?_⟩
  rw [renderVoices, hv]
  exact inPhase_foldl_voiceTurn v _ (m := { voices := b'.voices, mix := Num32.zero }) hp j

theorem pitchOk_effect {b b' : Block} (h : PitchOk b) (he : Effect b b') : PitchOk b' := by
  cases he with
  | keep => exact h
  | status s => exact h.congr rfl rfl rfl
  | data d => exact pitchOk_onData h d
  | event e => exact h.congr rfl rfl rfl
  | bend v => exact pitchOk_setBend h v
  | param p d => exact h.congr (setParam_pitchBend _ _ _) (setParam_pbLatch _ _ _) (setParam_voices _ _ _)
  | waveform d => exact h.congr rfl rfl rfl
  | reset => exact pitchOk_reset
  | tick draws => exact pitchOk_tick h draws

/-- Settles O49: every effect of an instruction keeps phases and bends, a tick because the phase increment stays small. -/
theorem stepKeepsThePhasesInRange : Obligations.StepKeepsThePhasesInRange := fun _ _ h hstep =>
  pitchOk_effect h (step_effect hstep)

/-! ## Waveforms and frequencies -/

theorem gain_words :
    gainSine = 0x40066666#32 ∧ gainSquare = 0x3F800000#32 ∧ gainTriangle = 0x4019999A#32 ∧ gainSaw = 0x3F99999A#32 := by
  decide +kernel

theorem oscillator_words :
    minusOne = 0xBF800000#32 ∧ half = 0x3F000000#32 ∧ Num32.ofInt 2 = 0x40000000#32 ∧ Num32.ofInt 3 = 0x40400000#32 ∧
    Num32.ofInt 4 = 0x40800000#32 := by decide +kernel

theorem osc_of_four_le (c : Config) {w : Word} (h : 4 ≤ w.toNat) (p : Num32) : osc c w p = silentWave p := by
  obtain ⟨k, hk⟩ := Nat.exists_eq_add_of_le' h
  unfold osc
  rw [hk]
  rfl

/-- Settles O39. -/
theorem waveformsAndGains : Obligations.WaveformsAndGains := by
  intro p
  obtain ⟨hsine, hsquare, htri, hsaw⟩ := gain_words
  obtain ⟨hminus, hhalf, h2, h3, h4⟩ := oscillator_words
  refine ⟨?_, ?_, ?_, ?_, fun w hw => osc_of_four_le _ hw p⟩
  · change sineWave Config.hw p = _
    rw [sineWave, hsine, twoPi]
  · change squareWave p = _
    rw [squareWave, hsquare, hhalf, hminus, Num32.one]
  · change triangleWave p = _
    rw [triangleWave, htri, hhalf, hminus, h3, h4]
  · change sawWave p = _
    rw [sawWave, hsaw, h2, Num32.one]

theorem freq_eq_freqWith (n : Data7) : freq Config.hw n = Config.freqWith Config.hw.exp2 n.toNat := rfl

/-- Settles O41, from EXP2_ZERO and EXP2_MONO. -/
theorem frequencyAndPitchProperties : Obligations.FrequencyAndPitchProperties := by
  refine ⟨?_, fun m n h => ?_, ?_⟩
  · have harg : Num32.div (Num32.ofInt (((69#7 : Data7).toNat : Int) - 69)) (Num32.ofInt 12) = Num32.zero := by
      decide +kernel
    rw [freq, harg, exp2_zero]
    decide +kernel
  · rw [freq_eq_freqWith, freq_eq_freqWith]
    exact exp2_mono h (by have := n.isLt; omega)
  · have harg : Num32.div (Num32.mul Num32.zero (Num32.ofInt 2)) (Num32.ofInt 12) = Num32.zero := by decide +kernel
    rw [pitchMul, bendOf_center, harg, exp2_zero]

end Sys2Proof.Machine

/-! # Decoded instructions are well formed -/

namespace Sys2Proof

theorem inRange_iff {n : Nat} {x : BitVec n} {lo hi : Nat} : inRange x lo hi = true ↔ lo ≤ x.toNat ∧ x.toNat ≤ hi := by
  simp [inRange]

theorem wellFormed_decodeWrite (a : Byte) (d : Word) : wellFormed (decodeWrite a d) = true := by
  have ha := a.isLt
  unfold decodeWrite
  split
  case h_9 =>
    simp only [imp_false] at *
    split_ifs <;> exact inRange_iff.2 (by omega)
  all_goals rfl

theorem wellFormed_decodeRead (a : Byte) : wellFormed (decodeRead a) = true := by
  have ha := a.isLt
  unfold decodeRead
  split
  case h_11 =>
    simp only [imp_false] at *
    split_ifs
    · exact inRange_iff.2 (by omega)
    · exact inRange_iff.2 (by omega)
    · rfl
    · exact inRange_iff.2 (by omega)
    · exact inRange_iff.2 (by omega)
    · exact inRange_iff.2 (by omega)
  all_goals rfl

theorem wellFormed_decodeTxn (w : TxnWord) : wellFormed (decodeTxn w) = true := by
  have hk := (txnKind w).isLt
  unfold decodeTxn
  dsimp only
  split
  case h_3 => exact wellFormed_decodeWrite _ _
  case h_4 => exact wellFormed_decodeRead _
  case h_7 | h_8 | h_9 | h_10 => exact inRange_iff.2 (by omega)
  case h_13 =>
    simp only [imp_false] at *
    exact inRange_iff.2 (by omega)
  all_goals rfl

theorem wellFormed_decodeByte : ∀ b : Byte, wellFormed (decodeByte b) = true := by decide +kernel

/-- A channel-0 status that is no note and no bend is unrecognized (30_encoding.md R87). -/
theorem isUnrecognized_of_channel_zero : ∀ st : Byte, isStatus st = true → channel st = 0 →
    st ≠ 0x90#8 → st ≠ 0x80#8 → st ≠ 0xE0#8 → isUnrecognized st = true := by decide +kernel

theorem wellFormed_decodeMessage {st : Byte} (hst : isStatus st = true) (d1 d2 : Data7) :
    wellFormed (decodeMessage st d1 d2) = true := by
  unfold decodeMessage
  split_ifs with hon hvel hoff hbend hch
  · rfl
  · simpa [wellFormed] using hvel
  · rfl
  · rfl
  · simp [wellFormed, hst, hch]
  · exact isUnrecognized_of_channel_zero st hst (not_not.1 hch) hon hoff hbend

theorem wellFormed_of_decode {w : Raw} {i : Instr} (h : decode w = .ok i) : wellFormed i = true := by
  cases w with
  | txn w =>
    cases h
    exact wellFormed_decodeTxn w
  | byte b =>
    cases h
    exact wellFormed_decodeByte b
  | msg w =>
    simp only [decode, decodeMsg] at h
    split_ifs at h with hst
    cases h
    exact wellFormed_decodeMessage hst _ _

end Sys2Proof

/-! # What each instruction writes -/

namespace Sys2Proof.Machine

/-! ## The byte stream -/

/-- The changes that an accepted input of the byte stream makes; a well-formed status row stands for a status byte. -/
inductive StreamWrite (i : Instr) (b : Block) : Block → Prop
  | keep : StreamWrite i b b
  | status (st : Byte) (h : wellFormed i = true → isStatus st = true) : StreamWrite i b (onStatus st b)
  | data (d : Data7) : StreamWrite i b (onData d b)
  | event (e : Event) : StreamWrite i b (enqueue e b)
  | bend (v : BitVec 14) : StreamWrite i b { b with pitchBend := bendOf v }

theorem StreamWrite.of_parseByte (i : Instr) (x : Byte) (b : Block) : StreamWrite i b (parseByte x b) := by
  rcases parseByte_cases x b with ⟨-, h⟩ | ⟨hlo, hhi, h⟩ | ⟨-, h⟩ <;> rw [h]
  · exact .keep
  · exact .status x fun _ => inRange_iff.2 ⟨hlo, hhi⟩
  · exact .data _

theorem StreamWrite.of_noteOnMsg (i : Instr) (d1 d2 : Data7) (b : Block) : StreamWrite i b (noteOnMsg d1 d2 b) := by
  unfold noteOnMsg
  split <;> exact .event _

/-- The rows of the status bytes of the other channels hold status bytes only (30_encoding.md R82). -/
theorem isStatus_of_byteMatches : ∀ b : Byte,
    (byteMatches b 0x8F#8 0x81#8 || byteMatches b 0x8E#8 0x82#8 || byteMatches b 0x8C#8 0x84#8 ||
      byteMatches b 0xC8#8 0x88#8 || byteMatches b 0xE8#8 0xC8#8 || byteMatches b 0xF8#8 0xE8#8) = true →
    isStatus b = true := by decide +kernel

/-! ## Every instruction -/

/-- What an instruction writes, by its kind. Beyond `Effect`, it says which instructions write so, and that the byte stream
writes only while EVQ has room. -/
inductive Writes (i : Instr) (b : Block) : Block → Prop
  | nothing : Writes i b b
  | stream {b' : Block} (hi : isStream i = true) (hroom : evqFull Config.hw b = false) (h : StreamWrite i b b') :
      Writes i b b'
  | param (hi : isParamWrite i = true) (p : Param) (d : Word) : Writes i b (writeParam p d b)
  | waveform (hi : isParamWrite i = true) (d : Word) : Writes i b { b with waveform := d }
  | tick (hi : i = .sampleTick) (draws : Nat) : Writes i b (tick Config.hw b draws).block
  | reset (hi : i = .reset) : Writes i b (Block.reset Config.hw)

section
variable {i : Instr} {f : Block → Block} {s t : State}

theorem Writes.of_accept (hi : isStream i = true) (h : accept f s = .next t) (hf : StreamWrite i s.block (f s.block)) :
    Writes i s.block t.block := by
  rcases accept_next h with ⟨-, rfl⟩ | ⟨hroom, rfl⟩
  · exact .nothing
  · exact .stream hi hroom hf

theorem Writes.of_silent (h : silent f s = .next t) (hf : Writes i s.block (f s.block)) : Writes i s.block t.block := by
  rw [silent_next h]
  exact hf

theorem Writes.of_respond {w : Word} (h : respond w s = .next t) : Writes i s.block t.block := by
  rw [respond_next h]
  exact .nothing

end

theorem exec_writes {i : Instr} {s t : State} (h : exec i s = .next t) : Writes i s.block t.block := by
  cases i with
  | byteIn b => exact .of_accept rfl h (.of_parseByte _ b _)
  | byteData v => exact .of_accept rfl h (.data v)
  | byteStatusNoteoff | byteStatusNoteon | byteStatusA0 | byteStatusB0 | byteStatusC0 | byteStatusD0
  | byteStatusPitchbend | byteStatusF0 => exact .of_accept rfl h (.status _ fun _ => by decide)
  | byteStatusCh1 b | byteStatusCh2to3 b | byteStatusCh4to7 b | byteStatusCh8to15T8toB b | byteStatusCh8to15TCtoD b
  | byteStatusCh8to15TE b =>
    refine .of_accept rfl h (.status b fun hwf => isStatus_of_byteMatches b ?_)
    simp only [wellFormed] at hwf
    simp only [hwf, Bool.or_true, Bool.true_or]
  | byteRealtime | msgOtherChannel | msgUnrecognized => exact .of_accept rfl h .keep
  | msgNoteonVel0 d1 => exact .of_accept rfl h (.of_noteOnMsg _ d1 _ _)
  | msgNoteon d1 d2 => exact .of_accept rfl h (.of_noteOnMsg _ d1 d2 _)
  | msgNoteoff => exact .of_accept rfl h (.event _)
  | msgPitchbend => exact .of_accept rfl h (.bend _)
  | wrCutoff | wrResonance | wrAttack | wrDecay | wrSustain | wrRelease => exact .of_silent h (.param rfl _ _)
  | wrWaveform d => exact .of_silent (f := fun b => { b with waveform := d }) h (.waveform rfl d)
  | wrIgnored07 | wrIgnored08to0F | wrIgnored10to1F | wrIgnored20to3F | wrIgnored40to7F | wrIgnored80toFF
  | txnReserved0 | txnReserved5 | txnReserved6to7 | txnReserved8toB | txnReservedCtoD | txnReservedE =>
    exact .of_silent (f := fun b => b) h .nothing
  | rdCutoff | rdResonance | rdAttack | rdDecay | rdSustain | rdRelease | rdWaveform | rdPitchbend | rdStatus0
  | rdStatus1 | rdVoice | rdReserved0Ato0B | rdReserved0Cto0F | rdReserved20to3F | rdReserved40to7F
  | rdReserved80toFF => exact .of_respond h
  | sampleTick =>
    injection h with h
    rw [← h]
    exact .tick rfl s.draws
  | reset => exact .of_silent (f := fun _ => Block.reset Config.hw) h (.reset rfl)

/-- What a step writes: nothing, or what a well-formed instruction writes. -/
theorem step_writes {s t : State} (h : step s = .next t) :
    t.block = s.block ∨ ∃ i, wellFormed i = true ∧ Writes i s.block t.block := by
  rcases step_block h with hb | ⟨w, i, u, hd, he, hb⟩
  · exact .inl hb
  · exact .inr ⟨i, wellFormed_of_decode hd, hb ▸ exec_writes he⟩

/-! ## Frames -/

/-- A completed message writes PITCHBEND and EVQ only, and EVQ grows by at most one event (40_parser.md R104). -/
theorem complete_frame (st : Byte) (d1 d2 : Data7) (b : Block) :
    ∃ x q, complete st d1 d2 b = { b with pitchBend := x, evq := q } ∧ q.length ≤ b.evq.length + 1 := by
  rcases complete_cases st d1 d2 b with ⟨e, h⟩ | h | h <;> rw [h]
  · exact ⟨_, _, rfl, by simp⟩
  · exact ⟨_, _, rfl, Nat.le_succ _⟩
  · exact ⟨_, _, rfl, Nat.le_succ _⟩

/-- A data byte writes PST, PITCHBEND and EVQ only, and queues at most one event (40_parser.md R103). -/
theorem onData_frame (d : Data7) (b : Block) :
    ∃ p x q, onData d b = { b with pst := p, pitchBend := x, evq := q } ∧ q.length ≤ b.evq.length + 1 := by
  rcases onData_cases d b with ⟨-, h⟩ | ⟨st, -, h⟩ | ⟨st, d1, -, h⟩ <;> rw [h]
  · exact ⟨_, _, _, rfl, Nat.le_succ _⟩
  · exact ⟨_, _, _, rfl, Nat.le_succ _⟩
  · obtain ⟨x, q, hc, hq⟩ := complete_frame st d1 d { b with pst := .expectingData1 st }
    exact ⟨_, x, q, hc, hq⟩

theorem StreamWrite.frame {i : Instr} {b b' : Block} (h : StreamWrite i b b') :
    ∃ p x q, b' = { b with pst := p, pitchBend := x, evq := q } ∧ q.length ≤ b.evq.length + 1 := by
  cases h with
  | keep => exact ⟨_, _, _, rfl, Nat.le_succ _⟩
  | status st => exact ⟨_, _, _, rfl, Nat.le_succ _⟩
  | data d => exact onData_frame d b
  | event e => exact ⟨_, _, _, rfl, by simp⟩
  | bend v => exact ⟨_, _, _, rfl, Nat.le_succ _⟩

/-- An event of the queue writes the voices and the cursor only (41_voice_envelope.md R141, R142). -/
theorem drainEntry_frame (c : Config) (d : Drained) (e : Entry) :
    ∃ vs k, (drainEntry c d e).block = { d.block with voices := vs, cursor := k } := by
  rcases drainEntry_cases c d e with h | h | h <;> rw [h]
  · cases e.event <;> exact ⟨_, _, rfl⟩
  · exact ⟨_, _, rfl⟩
  · exact ⟨_, _, rfl⟩

theorem foldl_drainEntry_frame (c : Config) (q : List Entry) (d : Drained) :
    ∃ vs k, (q.foldl (drainEntry c) d).block = { d.block with voices := vs, cursor := k } := by
  induction q generalizing d with
  | nil => exact ⟨_, _, rfl⟩
  | cons e q ih =>
    obtain ⟨vs, k, h⟩ := ih (drainEntry c d e)
    obtain ⟨vs', k', h'⟩ := drainEntry_frame c d e
    exact ⟨vs, k, by rw [List.foldl_cons, h, h']⟩

/-- A block start writes the voices, the cursor and the latches, and empties EVQ (44_render.md R220 to R222). -/
theorem blockStart_frame (c : Config) (d : Drained) :
    ∃ vs k wl pl q, (blockStart c d).block =
      { d.block with voices := vs, cursor := k, wfLatch := wl, pbLatch := pl, evq := q } ∧
      (q = [] ∨ q = d.block.evq) := by
  unfold blockStart
  split
  · obtain ⟨vs, k, h⟩ := foldl_drainEntry_frame c d.block.evq { d with block := { d.block with evq := [] } }
    exact ⟨vs, k, d.block.waveform, d.block.pitchBend, [], by simp only [drainEvents, latchSnapshot, h], .inl rfl⟩
  · exact ⟨_, _, _, _, _, rfl, .inr rfl⟩

/-- A tick writes the voices, the cursor, the latches and SAMPLE_POS, and may empty EVQ (44_render.md R220). -/
theorem tick_frame (c : Config) (b : Block) (draws : Nat) :
    ∃ vs k wl pl pos q, (tick c b draws).block =
      { b with voices := vs, cursor := k, wfLatch := wl, pbLatch := pl, samplePos := pos, evq := q } ∧
      (q = [] ∨ q = b.evq) := by
  obtain ⟨vs, k, wl, pl, q, h, hq⟩ := blockStart_frame c { block := b, draws := draws }
  exact ⟨_, k, wl, pl, _, q, by simp only [tick, h]; rfl, hq⟩

/-- Settles O45, by the kinds of writes and the frame of each. -/
theorem whoWritesWhat : Obligations.WhoWritesWhat := by
  intro i s t h hreset
  have hw := exec_writes h
  generalize t.block = b' at hw ⊢
  cases hw with
  | nothing =>
    exact ⟨fun _ => ⟨rfl, rfl, rfl, rfl, rfl⟩, fun _ => ⟨rfl, rfl⟩, fun _ _ => rfl, fun _ => ⟨fun _ => rfl, rfl⟩⟩
  | stream hi _ hs =>
    obtain ⟨p, x, q, rfl, -⟩ := hs.frame
    exact ⟨fun _ => ⟨rfl, rfl, rfl, rfl, rfl⟩, fun hn => absurd hi (by simp [hn]), fun hn => absurd hi (by simp [hn]),
      fun _ => ⟨fun _ => rfl, rfl⟩⟩
  | param hi p d =>
    exact ⟨fun _ => ⟨setParam_voices _ _ _, setParam_cursor _ _ _, setParam_wfLatch _ _ _, setParam_pbLatch _ _ _,
      setParam_samplePos _ _ _⟩, fun _ => ⟨setParam_pst _ _ _, setParam_pitchBend _ _ _⟩,
      fun _ _ => setParam_evq _ _ _, fun hn => absurd hi (by simp [hn])⟩
  | waveform hi d =>
    exact ⟨fun _ => ⟨rfl, rfl, rfl, rfl, rfl⟩, fun _ => ⟨rfl, rfl⟩, fun _ _ => rfl, fun hn => absurd hi (by simp [hn])⟩
  | tick hi draws =>
    obtain ⟨vs, k, wl, pl, pos, q, ht, -⟩ := tick_frame Config.hw s.block draws
    rw [ht]
    exact ⟨absurd hi, fun _ => ⟨rfl, rfl⟩, fun _ hn => absurd hi hn, fun _ => ⟨fun _ => rfl, rfl⟩⟩
  | reset hi => exact absurd hi hreset

/-! ## Parser, queue and parameters -/

/-- Only PST matters. -/
theorem ParserOk.congr {b b' : Block} (h : ParserOk b) (hp : b'.pst = b.pst) : ParserOk b' := by rwa [ParserOk, hp]

theorem parserOk_of_pst {b : Block} {st : Byte} (h : isStatus st = true) (hp : b.pst = .expectingData1 st) :
    ParserOk b := by rwa [ParserOk, hp]

/-- A data byte keeps the running status (40_parser.md R103). -/
theorem parserOk_onData {b : Block} (h : ParserOk b) (d : Data7) : ParserOk (onData d b) := by
  rcases onData_cases d b with ⟨-, hd⟩ | ⟨st, hp, hd⟩ | ⟨st, d1, hp, hd⟩ <;> rw [hd]
  · exact h
  · rwa [ParserOk, hp] at h
  · rw [ParserOk, hp] at h
    obtain ⟨x, q, hc, -⟩ := complete_frame st d1 d { b with pst := .expectingData1 st }
    rw [hc]
    exact h

theorem StreamWrite.parserOk {i : Instr} {b b' : Block} (h : StreamWrite i b b') (hi : wellFormed i = true)
    (hb : ParserOk b) : ParserOk b' := by
  cases h with
  | status st hst => exact hst hi
  | data d => exact parserOk_onData hb d
  | keep | event | bend => exact hb

theorem Writes.parserOk {i : Instr} {b b' : Block} (h : Writes i b b') (hi : wellFormed i = true) (hb : ParserOk b) :
    ParserOk b' := by
  cases h with
  | nothing | waveform => exact hb
  | stream _ _ hs => exact hs.parserOk hi hb
  | param _ p d => exact hb.congr (setParam_pst _ _ _)
  | tick _ draws =>
    obtain ⟨vs, k, wl, pl, pos, q, ht, -⟩ := tick_frame Config.hw b draws
    exact hb.congr (by rw [ht])
  | reset => exact trivial

/-- An event is queued only where the queue has room (10_state.md R36). -/
theorem Writes.queueOk {i : Instr} {b b' : Block} (h : Writes i b b') (hb : QueueOk b) : QueueOk b' := by
  cases h with
  | nothing | waveform => exact hb
  | stream _ hroom hs =>
    obtain ⟨p, x, q, rfl, hq⟩ := hs.frame
    rw [evqFull_hw, decide_eq_false_iff_not] at hroom
    have hlen : b.evq.length ≤ 32 := hb
    exact show q.length ≤ 32 by omega
  | param _ p d => exact (congrArg List.length (setParam_evq _ _ _)).trans_le hb
  | tick _ draws =>
    obtain ⟨vs, k, wl, pl, pos, q, ht, rfl | rfl⟩ := tick_frame Config.hw b draws <;> rw [ht]
    · exact Nat.zero_le _
    · exact hb
  | reset => exact Nat.zero_le _

theorem inUnit_clampUnit (x : Num32) : inUnit (Num32.clampUnit x) := Num32.clamp_between x (by decide)

/-- RESET_PARAMS go through the write clamp (70_reset_and_hazards.md R290). -/
theorem getParam_reset (c : Config) (p : Param) : ∃ w, getParam p (Block.reset c) = Num32.clampUnit w := by
  cases p <;> exact ⟨_, rfl⟩

theorem paramsOk_reset : ParamsOk (Block.reset Config.hw) := fun p => by
  obtain ⟨w, hp⟩ := getParam_reset Config.hw p
  exact hp ▸ inUnit_clampUnit w

theorem Writes.paramsOk {i : Instr} {b b' : Block} (h : Writes i b b') (hb : ParamsOk b) : ParamsOk b' := by
  cases h with
  | nothing | waveform => exact hb
  | stream _ _ hs =>
    obtain ⟨p, x, q, rfl, -⟩ := hs.frame
    exact hb
  | param _ p d =>
    intro r
    by_cases hr : r = p
    · rw [hr, getParam_writeParam_same]
      exact inUnit_clampUnit d
    · exact (getParam_setParam_ne _ b hr).symm ▸ hb r
  | tick _ draws =>
    obtain ⟨vs, k, wl, pl, pos, q, ht, -⟩ := tick_frame Config.hw b draws
    rw [ht]
    exact hb
  | reset => exact paramsOk_reset

/-- Settles O47: what a step writes keeps each of the three. -/
theorem stepKeepsParserQueueAndParameters : Obligations.StepKeepsParserQueueAndParameters := by
  intro s t h
  rcases step_writes h with hb | ⟨i, hi, hw⟩
  · rw [hb]
    exact ⟨id, id, id⟩
  · exact ⟨hw.parserOk hi, hw.queueOk, hw.paramsOk⟩

end Sys2Proof.Machine

/-! # Levels: the envelope keeps them in [0, 1] -/

namespace Sys2Proof.Machine

open Num32

/-! ## More arithmetic within whole bounds -/

theorem ofInt_zero : ofInt 0 = zero := by decide +kernel

theorem ofInt_one : ofInt 1 = one := by decide +kernel

theorem inUnit_iff {x : Num32} : inUnit x ↔ within 0 1 x := by
  rw [within_iff (by decide) (by decide), ofInt_zero, ofInt_one, inUnit]

theorem inFilterRange_iff {x : Num32} : inFilterRange x ↔ within (-4) 4 x := by
  rw [within_iff (by decide) (by decide), inFilterRange]

theorem within_one : within 1 1 one := ofInt_one ▸ within_ofInt (by decide)

theorem inUnit_zero : inUnit zero := by unfold inUnit; decide

theorem inUnit_one : inUnit one := by unfold inUnit; decide

theorem toUnits_lt_of_not_le {x y : Num32} (hx : isFinite x = true) (hy : isFinite y = true) (h : ¬ le x y = true) :
    toUnits y < toUnits x := by rwa [← not_le, ← le_iff_toUnits hx hy]

/-- A clamp is within the whole bounds of its own bounds. -/
theorem within_clamp {a b a' b' : Int} {lo hi : Num32} (x : Num32) (hle : le lo hi = true) (hlo : within a a' lo)
    (hhi : within b' b hi) : within a b (clamp x lo hi) := by
  obtain ⟨hfl, hl, -⟩ := hlo
  obtain ⟨hfh, -, hh⟩ := hhi
  obtain ⟨hcl, hch⟩ := clamp_between x hle
  have hfc := isFinite_of_between hfl hfh hcl hch
  rw [le_iff_toUnits hfl hfc] at hcl
  rw [le_iff_toUnits hfc hfh] at hch
  exact ⟨hfc, hl.trans hcl, hch.trans hh⟩

section
variable {a b c d : Int} {x y : Num32}

theorem within_sub (hx : within a b x) (hy : within c d y) (hlo : |a - d| ≤ 2 ^ 24) (hhi : |b - c| ≤ 2 ^ 24) :
    within (a - d) (b - c) (sub x y) := by
  obtain ⟨hfx, hxl, hxh⟩ := hx
  obtain ⟨hfy, hyl, hyh⟩ := hy
  refine within_of_correctlyRounded (correctlyRounded_sub hfx hfy) Nat.one_pos hlo hhi ?_ ?_
  · rw [Nat.cast_one]; linarith
  · rw [Nat.cast_one]; linarith

/-- A factor in [0, 1] keeps bounds around 0. -/
theorem within_unit_mul (hx : within 0 1 x) (hy : within a b y) (ha : a ≤ 0) (hb : 0 ≤ b) (hlo : |a| ≤ 2 ^ 24)
    (hhi : |b| ≤ 2 ^ 24) : within a b (mul x y) := by
  obtain ⟨hfx, hx0, hx1⟩ := hx
  obtain ⟨hfy, hyl, hyh⟩ := hy
  rw [zero_mul] at hx0
  rw [one_mul] at hx1
  have ha' : a * 2 ^ 149 ≤ 0 := mul_nonpos_of_nonpos_of_nonneg ha (by positivity)
  have hb' : 0 ≤ b * 2 ^ 149 := mul_nonneg hb (by positivity)
  refine within_of_correctlyRounded (correctlyRounded_mul hfx hfy) (Nat.two_pow_pos 149) hlo hhi ?_ ?_
  · calc a * 2 ^ 149 * (2 ^ 149 : Nat) = 2 ^ 149 * (a * 2 ^ 149) := by push_cast; ring
      _ ≤ toUnits x * (a * 2 ^ 149) := mul_le_mul_of_nonpos_right hx1 ha'
      _ ≤ toUnits x * toUnits y := mul_le_mul_of_nonneg_left hyl hx0
  · calc toUnits x * toUnits y ≤ toUnits x * (b * 2 ^ 149) := mul_le_mul_of_nonneg_left hyh hx0
      _ ≤ 2 ^ 149 * (b * 2 ^ 149) := mul_le_mul_of_nonneg_right hx1 hb'
      _ = b * 2 ^ 149 * (2 ^ 149 : Nat) := by push_cast; ring

/-- A value in [0, 1] divided by a value from 1 on. -/
theorem within_div_of_one_le (hx : within 0 1 x) (hy : within 1 d y) : within 0 1 (div x y) := by
  obtain ⟨hfx, hx0, hx1⟩ := hx
  obtain ⟨hfy, hy1, -⟩ := hy
  rw [zero_mul] at hx0
  rw [one_mul] at hx1 hy1
  have hpos : 0 < toUnits y := lt_of_lt_of_le (by positivity) hy1
  have hden : ((toUnits y).natAbs : Int) = toUnits y := Int.natAbs_of_nonneg hpos.le
  have hround := correctlyRounded_div hfx hfy hpos.ne'
  rw [Int.sign_eq_one_of_pos hpos, one_mul] at hround
  refine within_of_correctlyRounded hround (by omega) (by decide) (by decide) ?_ ?_ <;> rw [hden]
  · rw [zero_mul, zero_mul]
    positivity
  · calc toUnits x * 2 ^ 149 ≤ 2 ^ 149 * toUnits y := by rw [mul_comm]; gcongr; exact hx1.trans hy1
      _ = 1 * 2 ^ 149 * toUnits y := by rw [one_mul]

end

/-! ## The increments of the envelope -/

/-- A stage takes at least one tick and at most a second: at this SAMPLE_RATE a time constant is 1 to 44100 ticks
(41_voice_envelope.md R140). -/
theorem within_ticks (t : Num32) : within 1 44100 (mul (clampTime t) (rate Config.hw)) := by
  have hle : le (ofDec 1 1000) one = true := by decide +kernel
  have hfd : isFinite (ofDec 1 1000) = true := by decide +kernel
  obtain ⟨hl, hh⟩ := clamp_between t hle
  have hfc := isFinite_of_between hfd isFinite_one hl hh
  rw [le_iff_toUnits hfd hfc] at hl
  rw [le_iff_toUnits hfc isFinite_one, toUnits_one] at hh
  obtain ⟨hfr, hr⟩ : isFinite (rate Config.hw) = true ∧ toUnits (rate Config.hw) = 44100 * 2 ^ 149 :=
    ofInt_exact (i := 44100) (by decide)
  refine within_of_correctlyRounded (correctlyRounded_mul hfc hfr) (Nat.two_pow_pos 149) (by decide) (by decide) ?_ ?_ <;>
    rw [hr]
  · calc (1 : Int) * 2 ^ 149 * (2 ^ 149 : Nat) ≤ toUnits (ofDec 1 1000) * (44100 * 2 ^ 149) := by decide +kernel
      _ ≤ _ := mul_le_mul_of_nonneg_right hl (by positivity)
  · calc toUnits (clamp t (ofDec 1 1000) one) * (44100 * 2 ^ 149) ≤ 2 ^ 149 * (44100 * 2 ^ 149) :=
          mul_le_mul_of_nonneg_right hh (by positivity)
      _ = 44100 * 2 ^ 149 * (2 ^ 149 : Nat) := by norm_num

section
variable (b : Block)

theorem within_readLive_s : within 0 1 (readLive b).s := inUnit_iff.1 (inUnit_clampUnit b.sustain)

theorem within_attackInc : within 0 1 (attackInc Config.hw (readLive b)) :=
  within_div_of_one_le (inUnit_iff.1 inUnit_one) (within_ticks b.attack)

theorem within_decayDec : within 0 1 (decayDec Config.hw (readLive b)) :=
  within_div_of_one_le (within_sub within_one (within_readLive_s b) (by decide) (by decide)) (within_ticks b.decay)

theorem within_releaseDec : within 0 1 (releaseDec Config.hw (readLive b)) :=
  within_div_of_one_le (within_readLive_s b) (within_ticks b.release)

end

/-! ## The envelope steps -/

/-- The level is in [0, 1], and 0.0 in an Idle voice (10_state.md R25, 41_voice_envelope.md R148). -/
def LevelOk (v : Voice) : Prop := inUnit v.level ∧ (v.env = .idle → v.level = zero)

theorem levelsOk_and_idleOk_iff (b : Block) : LevelsOk b ∧ IdleOk b ↔ ∀ i, LevelOk (b.voices.get i) := forall_and.symm

section
variable {v : Voice} (b : Block)

theorem levelOk_attackStep (h : inUnit v.level) (he : v.env = .attack) :
    LevelOk (attackStep Config.hw (readLive b) v) := by
  unfold attackStep
  dsimp only
  obtain ⟨hf, hl, -⟩ := within_add (inUnit_iff.1 h) (within_attackInc b) (by decide) (by decide)
  split
  · exact ⟨inUnit_one, nofun⟩
  next hge =>
    refine ⟨inUnit_iff.2 ⟨hf, hl, ?_⟩, fun hi => absurd (he.symm.trans hi) nofun⟩
    have hlt := toUnits_lt_of_not_le isFinite_one hf hge
    rw [one_mul, ← toUnits_one]
    exact hlt.le

/-- A level lowered by at most 1 does not rise above 1. -/
theorem within_lowered {x dec : Num32} (hx : inUnit x) (hd : within 0 1 dec) : within (-1) 1 (sub x dec) :=
  within_sub (inUnit_iff.1 hx) hd (by decide) (by decide)

/-- A lowered level above a value in [0, 1] is in [0, 1]. -/
theorem inUnit_of_above {x y : Num32} (hx : within (-1) 1 x) (hy : within 0 1 y) (h : ¬ le x y = true) : inUnit x := by
  obtain ⟨hfx, -, hh⟩ := hx
  obtain ⟨hfy, hl, -⟩ := hy
  have hlt := toUnits_lt_of_not_le hfx hfy h
  exact inUnit_iff.2 ⟨hfx, hl.trans hlt.le, hh⟩

theorem levelOk_decayStep (h : inUnit v.level) (he : v.env = .decay) :
    LevelOk (decayStep Config.hw (readLive b) v) := by
  unfold decayStep
  dsimp only
  split
  · exact ⟨inUnit_iff.2 (within_readLive_s b), nofun⟩
  next hle =>
    exact ⟨inUnit_of_above (within_lowered h (within_decayDec b)) (within_readLive_s b) hle,
      fun hi => absurd (he.symm.trans hi) nofun⟩

theorem levelOk_releaseStep (h : inUnit v.level) (he : v.env = .release) :
    LevelOk (releaseStep Config.hw (readLive b) v) := by
  unfold releaseStep
  dsimp only
  split
  · exact ⟨inUnit_zero, fun _ => rfl⟩
  next hle =>
    exact ⟨inUnit_of_above (within_lowered h (within_releaseDec b)) (inUnit_iff.1 inUnit_zero) hle,
      fun hi => absurd (he.symm.trans hi) nofun⟩

/-- An envelope step keeps the level legal, whatever the parameters hold. -/
theorem levelOk_envStep (h : LevelOk v) : LevelOk (envStep Config.hw (readLive b) v) := by
  unfold envStep
  split
  next he => exact levelOk_attackStep b h.1 he
  next he => exact levelOk_decayStep b h.1 he
  · exact h
  next he => exact levelOk_releaseStep b h.1 he
  · exact ⟨inUnit_zero, fun _ => rfl⟩

theorem levelOk_voiceSample (h : LevelOk v) (wf : Word) (pm : Num32) :
    LevelOk (voiceSample Config.hw (readLive b) wf pm v) := by
  obtain ⟨-, henv, hlevel, -⟩ := voiceSample_fields Config.hw (readLive b) wf pm v
  rw [LevelOk, henv, hlevel]
  exact levelOk_envStep b h

end

/-! ## What holds of each voice -/

/-- A property of a voice that the events and RESET give or keep. -/
structure KeptByEvents (P : Voice → Prop) : Prop where
  attack : ∀ n, P (attackVoice n)
  release : ∀ n v, P v → P (releaseIfHolds n v)
  reset : P Voice.reset

section
variable {P : Voice → Prop} {b : Block} {d : Drained}

theorem KeptByEvents.applyEvent (hP : KeptByEvents P) (h : ∀ i, P (b.voices.get i)) (e : Event) (i : Fin 4) :
    P ((applyEvent e b).voices.get i) := by
  cases e with
  | noteOn n =>
    change P ((applyNoteOn n b).voices.get i)
    rw [applyNoteOn_voices]
    by_cases hi : i = b.cursor
    · rw [hi, Pool.get_set_same]
      exact hP.attack n
    · rw [Pool.get_set_ne _ _ hi]
      exact h i
  | noteOff n =>
    change P ((applyNoteOff n b).voices.get i)
    rw [applyNoteOff_voices, Pool.get_map]
    exact hP.release n _ (h i)

theorem KeptByEvents.drainEntry (hP : KeptByEvents P) (h : ∀ i, P (d.block.voices.get i)) (c : Config) (e : Entry) :
    ∀ i, P ((drainEntry c d e).block.voices.get i) := by
  rcases drainEntry_cases c d e with hd | hd | hd <;> rw [hd]
  · exact hP.applyEvent h _
  · exact h
  · exact h

theorem KeptByEvents.foldl_drainEntry (hP : KeptByEvents P) (c : Config) (q : List Entry)
    (h : ∀ i, P (d.block.voices.get i)) : ∀ i, P ((q.foldl (Machine.drainEntry c) d).block.voices.get i) := by
  induction q generalizing d with
  | nil => exact h
  | cons e q ih => exact ih (hP.drainEntry h c e)

theorem KeptByEvents.blockStart (hP : KeptByEvents P) (h : ∀ i, P (d.block.voices.get i)) (c : Config) :
    ∀ i, P ((blockStart c d).block.voices.get i) := by
  unfold Machine.blockStart
  split
  · exact hP.foldl_drainEntry c d.block.evq (d := { d with block := { d.block with evq := [] } }) h
  · exact h

end

/-- The turns of a tick keep what a processed voice keeps. -/
theorem forall_voice_foldl_voiceTurn {P : Voice → Prop} {c : Config} {l : Live} {wf : Word} {pm : Num32}
    (hs : ∀ v, P v → P (voiceSample c l wf pm v)) (is : List (Fin 4)) {m : Mixing} (h : ∀ j, P (m.voices.get j)) :
    ∀ j, P ((is.foldl (voiceTurn c l wf pm) m).voices.get j) := by
  induction is generalizing m with
  | nil => exact h
  | cons i is ih =>
    refine ih fun j => ?_
    by_cases hj : j = i
    · rw [hj, voiceTurn_get_same]
      split
      · exact hs _ (h i)
      · exact h i
    · rw [voiceTurn_get_ne _ _ _ _ _ hj]
      exact h j

/-- A voice processed by a tick whose sample starts from `b` (44_render.md R224). -/
def sampledFrom (b : Block) (v : Voice) : Voice :=
  voiceSample Config.hw (readLive b) b.wfLatch (pitchMul Config.hw b.pbLatch) v

/-- What holds of each voice holds after every effect of an instruction, if a tick keeps it of the voices it processes. -/
theorem KeptByEvents.effect {P : Voice → Prop} (hP : KeptByEvents P) {b b' : Block} (h : ∀ i, P (b.voices.get i))
    (hs : ∀ draws v, P v → P (sampledFrom (Machine.blockStart Config.hw { block := b, draws := draws }).block v))
    (he : Effect b b') : ∀ i, P (b'.voices.get i) := by
  cases he with
  | keep | status | event | bend | waveform => exact h
  | data d =>
    obtain ⟨p, x, q, hd, -⟩ := onData_frame d b
    rw [hd]
    exact h
  | param p d => rw [writeParam, setParam_voices]; exact h
  | reset => intro i; fin_cases i <;> exact hP.reset
  | tick draws =>
    rw [tick_voices, renderVoices]
    exact forall_voice_foldl_voiceTurn (hs draws) _ (hP.blockStart (d := { block := b, draws := draws }) h Config.hw)

theorem levelOk_keptByEvents : KeptByEvents LevelOk where
  attack _ := ⟨inUnit_zero, nofun⟩
  release n v h := by
    unfold releaseIfHolds
    split
    · exact ⟨h.1, nofun⟩
    · exact h
  reset := ⟨inUnit_zero, fun _ => rfl⟩

/-- Settles O48: the events keep a level legal, and so does each envelope step (`levelOk_envStep`). -/
theorem stepKeepsTheLevelsInRange : Obligations.StepKeepsTheLevelsInRange := by
  intro s t h hstep
  rw [levelsOk_and_idleOk_iff] at h ⊢
  exact levelOk_keptByEvents.effect h (fun _ _ hv => levelOk_voiceSample _ hv _ _) (step_effect hstep)

end Sys2Proof.Machine

/-! # Filter states: the oscillator stays within 3, and the filter within 4 -/

namespace Sys2Proof.Machine

open Num32

/-! ## The oscillator -/

theorem within_of_inPhase {p : Num32} (h : inPhase p) : within 0 1 p := by
  have hfin := isFinite_of_inPhase h
  obtain ⟨hl, hh⟩ := (inPhase_iff hfin).1 h
  exact ⟨hfin, by omega, by omega⟩

/-- A product of two values around 0. -/
theorem within_mul_around {b d : Int} {x y : Num32} (hx : within (-b) b x) (hy : within (-d) d y)
    (hlim : |b * d| ≤ 2 ^ 24) : within (-(b * d)) (b * d) (mul x y) := by
  obtain ⟨hfx, hxl, hxh⟩ := hx
  obtain ⟨hfy, hyl, hyh⟩ := hy
  have hxabs : |toUnits x| ≤ b * 2 ^ 149 := abs_le.2 ⟨by rwa [← neg_mul], hxh⟩
  have hyabs : |toUnits y| ≤ d * 2 ^ 149 := abs_le.2 ⟨by rwa [← neg_mul], hyh⟩
  have habs : |toUnits x * toUnits y| ≤ b * d * 2 ^ 149 * (2 ^ 149 : Nat) := by
    calc |toUnits x * toUnits y| = |toUnits x| * |toUnits y| := abs_mul _ _
      _ ≤ (b * 2 ^ 149) * (d * 2 ^ 149) := mul_le_mul hxabs hyabs (abs_nonneg _) ((abs_nonneg _).trans hxabs)
      _ = b * d * 2 ^ 149 * (2 ^ 149 : Nat) := by push_cast; ring
  obtain ⟨hl, hh⟩ := abs_le.1 habs
  refine within_of_correctlyRounded (correctlyRounded_mul hfx hfy) (Nat.two_pow_pos 149) (by rwa [abs_neg]) hlim ?_ hh
  rw [neg_mul, neg_mul]
  exact hl

theorem half_value : isFinite half = true ∧ toUnits half = 2 ^ 148 := by decide +kernel

/-- `4 * p`, below and above the middle of the period (42_oscillator.md R183). -/
theorem within_four_mul {p : Num32} (h : inPhase p) :
    (lt p half = true → within 0 2 (mul (ofInt 4) p)) ∧ (¬ lt p half = true → within 2 4 (mul (ofInt 4) p)) := by
  have hfin := isFinite_of_inPhase h
  obtain ⟨hl, hh⟩ := (inPhase_iff hfin).1 h
  obtain ⟨hf4, h4⟩ := ofInt_exact (i := 4) (by decide)
  obtain ⟨hfhalf, hhalf⟩ := half_value
  have hround := correctlyRounded_mul hf4 hfin
  rw [h4] at hround
  have hlt := lt_iff_toUnits hfin hfhalf
  rw [hhalf] at hlt
  refine ⟨fun hp => ?_, fun hp => ?_⟩
  · have hup := hlt.1 hp
    refine within_of_correctlyRounded hround (Nat.two_pow_pos 149) (by decide) (by decide) ?_ ?_ <;> push_cast <;> omega
  · have hdown : ¬ toUnits p < 2 ^ 148 := by rwa [← hlt]
    refine within_of_correctlyRounded hround (Nat.two_pow_pos 149) (by decide) (by decide) ?_ ?_ <;> push_cast <;> omega

theorem within_minusOne : within (-1) (-1) minusOne := within_ofInt (by decide)

theorem within_sineWave {p : Num32} (h : inPhase p) : within (-1) 1 (sineWave Config.hw p).value := by
  have hpi : within 0 7 twoPi := by unfold within; decide +kernel
  obtain ⟨hf, -, -⟩ := within_mul_nonneg hpi (within_of_inPhase h) (by decide)
  exact (within_iff (by decide) (by decide)).2 (sin_range hf)

theorem within_squareWave (p : Num32) : within (-1) 1 (squareWave p).value := by
  unfold squareWave
  dsimp only
  split
  · exact within_mono within_one (by decide) le_rfl
  · exact within_mono within_minusOne le_rfl (by decide)

theorem within_triangleWave {p : Num32} (h : inPhase p) : within (-1) 1 (triangleWave p).value := by
  obtain ⟨hbelow, habove⟩ := within_four_mul h
  unfold triangleWave
  dsimp only
  split
  next hp => exact within_add within_minusOne (hbelow hp) (by decide) (by decide)
  next hp =>
    exact within_sub (within_ofInt (i := 3) (by decide)) (habove hp) (by decide) (by decide)

theorem within_sawWave {p : Num32} (h : inPhase p) : within (-1) 1 (sawWave p).value := by
  have htwo : within 0 2 (ofInt 2) := within_mono (within_ofInt (i := 2) (by decide)) (by decide) le_rfl
  exact within_sub (within_mul_nonneg htwo (within_of_inPhase h) (by decide)) within_one (by decide) (by decide)

theorem within_zero : within 0 0 zero := ofInt_zero ▸ within_ofInt (by decide)

/-- Every waveform is in [-1, 1], and its gain below 3 (42_oscillator.md R181 to R186). -/
theorem within_osc (w : Word) {p : Num32} (h : inPhase p) :
    within (-1) 1 (osc Config.hw w p).value ∧ within (-3) 3 (osc Config.hw w p).gain := by
  have hgain : within (-3) 3 gainSine ∧ within (-3) 3 gainSquare ∧ within (-3) 3 gainTriangle ∧
      within (-3) 3 gainSaw := by
    unfold within
    decide +kernel
  obtain ⟨hsine, hsquare, htriangle, hsaw⟩ := hgain
  unfold osc
  split
  · exact ⟨within_sineWave h, hsine⟩
  · exact ⟨within_squareWave p, hsquare⟩
  · exact ⟨within_triangleWave h, htriangle⟩
  · exact ⟨within_sawWave h, hsaw⟩
  · exact ⟨within_mono within_zero (by decide) (by decide), within_mono within_zero (by decide) (by decide)⟩

/-- The filter's input is in [-3, 3] (44_render.md R224). -/
theorem within_shaped (w : Word) {p level : Num32} (hp : inPhase p) (hlevel : inUnit level) :
    within (-3) 3 (shaped (osc Config.hw w p) level) := by
  obtain ⟨hvalue, hgain⟩ := within_osc w hp
  have hlevel' : within (-1) 1 level := within_mono (inUnit_iff.1 hlevel) (by decide) le_rfl
  have hscaled := within_mul_around hvalue hlevel' (by decide)
  exact within_mul_around (b := 1) hscaled hgain (by decide)

/-! ## The filter -/

/-- A value in [-4, 4] lies between two neighbouring whole numbers there. -/
theorem exists_cell {z : Num32} (h : within (-4) 4 z) : ∃ k : Int, -4 ≤ k ∧ k ≤ 3 ∧ within k (k + 1) z := by
  obtain ⟨hf, hl, hh⟩ := h
  exact ⟨min (toUnits z / 2 ^ 149) 3, by omega, by omega, hf, by omega, by omega⟩

/-- The low-pass line moves the state towards its input by no more than the distance, so an input within 3 cannot take it
beyond 4; rounding is met by whole bounds around the state (43_filter.md R211). -/
theorem within_lowPass {c x z : Num32} (hc : within 0 1 c) (hx : within (-3) 3 x) (hz : within (-4) 4 z) :
    within (-4) 4 (lowPass c x z) := by
  obtain ⟨k, hk, hk', hcell⟩ := exists_cell hz
  have hdist := within_sub hx hcell (by rw [abs_le]; omega) (by rw [abs_le]; omega)
  have hmove := within_unit_mul hc hdist (by omega) (by omega) (by rw [abs_le]; omega) (by rw [abs_le]; omega)
  exact within_mono (within_add hcell hmove (by rw [abs_le]; omega) (by rw [abs_le]; omega)) (by omega) (by omega)

/-- The resonance line takes a part of the state off it, on the state's side of 0 (43_filter.md R211). -/
theorem within_resonate {r z : Num32} (hr : within 0 1 r) (hz : within (-4) 4 z) : within (-4) 4 (resonate r z) := by
  have hside : within 0 4 z ∨ within (-4) 0 z := by
    obtain ⟨hf, hl, hh⟩ := hz
    rcases le_total 0 (toUnits z) with h | h
    · exact .inl ⟨hf, by omega, hh⟩
    · exact .inr ⟨hf, hl, by omega⟩
  rcases hside with h | h
  · exact within_sub h (within_unit_mul hr h (by decide) (by decide) (by decide) (by decide)) (by decide) (by decide)
  · exact within_sub h (within_unit_mul hr h (by decide) (by decide) (by decide) (by decide)) (by decide) (by decide)

theorem within_readLive_c (b : Block) : within 0 1 (readLive b).c := by
  have hlo : within 0 1 (ofDec 1 100) := by unfold within; decide +kernel
  exact within_clamp b.cutoff (by decide +kernel) hlo within_one

theorem within_readLive_r (b : Block) : within 0 1 (readLive b).r := by
  have hhi : within 0 1 (ofDec 95 100) := by unfold within; decide +kernel
  exact within_clamp b.resonance (by decide +kernel) within_zero hhi

/-! ## The legal block -/

/-- What a legal block says of one voice (10_state.md R21, R25). -/
def VoiceLegal (v : Voice) : Prop := LevelOk v ∧ inPhase v.phase ∧ inFilterRange v.z

theorem inFilterRange_zero : inFilterRange zero := inFilterRange_iff.2 (within_mono within_zero (by decide) (by decide))

theorem voiceLegal_keptByEvents : KeptByEvents VoiceLegal where
  attack n := ⟨levelOk_keptByEvents.attack n, inPhase_zero, inFilterRange_zero⟩
  release n v h := by
    obtain ⟨hlevel, hphase, hz⟩ := h
    obtain ⟨-, -, hp, hz'⟩ := releaseIfHolds_keeps n v
    exact ⟨levelOk_keptByEvents.release n v hlevel, hp.symm ▸ hphase, hz'.symm ▸ hz⟩
  reset := ⟨levelOk_keptByEvents.reset, inPhase_zero, inFilterRange_zero⟩

/-- A processed voice stays legal, under a bend. -/
theorem voiceLegal_voiceSample {v : Voice} (h : VoiceLegal v) (b : Block) (wf : Word) (bend : BitVec 14) :
    VoiceLegal (voiceSample Config.hw (readLive b) wf (pitchMul Config.hw (bendOf bend)) v) := by
  obtain ⟨hlevel, hphase, hz⟩ := h
  obtain ⟨-, -, -, hz', hphase'⟩ :=
    voiceSample_fields Config.hw (readLive b) wf (pitchMul Config.hw (bendOf bend)) v
  refine ⟨levelOk_voiceSample b hlevel wf _, ?_, inFilterRange_iff.2 ?_⟩
  · rw [hphase']
    exact inPhase_advance hphase bend _
  · rw [hz']
    obtain ⟨hlevel', -⟩ := levelOk_envStep b hlevel
    exact within_resonate (within_readLive_r b)
      (within_lowPass (within_readLive_c b) (within_shaped wf hphase hlevel') (inFilterRange_iff.1 hz))

theorem legal_iff (b : Block) : Legal b ↔
    ParserOk b ∧ QueueOk b ∧ ParamsOk b ∧ BendOk b ∧ ∀ i, VoiceLegal (b.voices.get i) := by
  simp only [Legal, VoiceLegal, LevelOk, LevelsOk, IdleOk, PhasesOk, FiltersOk, forall_and, and_assoc]

/-- The voices and bends of a legal block stay legal under every effect of an instruction. -/
theorem voiceLegal_effect {b b' : Block} (hbend : BendOk b) (hv : ∀ i, VoiceLegal (b.voices.get i)) (he : Effect b b') :
    BendOk b' ∧ ∀ i, VoiceLegal (b'.voices.get i) := by
  have hpitch : PitchOk b := ⟨hbend, fun i => by obtain ⟨-, hphase, -⟩ := hv i; exact hphase⟩
  refine ⟨(pitchOk_effect hpitch he).1, voiceLegal_keptByEvents.effect hv (fun draws v hv => ?_) he⟩
  obtain ⟨⟨-, bend, hpb⟩, -⟩ : PitchOk (blockStart Config.hw { block := b, draws := draws }).block :=
    pitchOk_blockStart hpitch Config.hw
  rw [sampledFrom, hpb]
  exact voiceLegal_voiceSample hv _ _ bend

/-- Settles O50, from the invariants of parser, queue and parameters, of bends, and of each voice. -/
theorem stepKeepsTheBlockLegal : Obligations.StepKeepsTheBlockLegal := by
  intro s t h hstep
  rw [legal_iff] at h ⊢
  obtain ⟨hparser, hqueue, hparams, hbend, hvoices⟩ := h
  obtain ⟨hparser', hqueue', hparams'⟩ := stepKeepsParserQueueAndParameters s t hstep
  exact ⟨hparser' hparser, hqueue' hqueue, hparams' hparams, voiceLegal_effect hbend hvoices (step_effect hstep)⟩

/-- Settles O29. -/
theorem resetStateIsLegal : Obligations.ResetStateIsLegal := by
  change Legal (Block.reset Config.hw)
  rw [legal_iff]
  refine ⟨trivial, Nat.zero_le _, paramsOk_reset, pitchOk_reset.1, fun i => ?_⟩
  fin_cases i <;> exact voiceLegal_keptByEvents.reset

end Sys2Proof.Machine

/-! # Bends, messages, views and the reset state -/

namespace Sys2Proof.Machine

open Num32

/-! ## The bend of a 14-bit value -/

/-- A bend is exact: 14 bits, scaled by a power of two, are a Num (30_encoding.md R86). -/
theorem bendOf_exact (v : BitVec 14) :
    isFinite (bendOf v) = true ∧ toUnits (bendOf v) = ((v.toNat : Int) - 8192) * 2 ^ 136 := by
  have hv := v.isLt
  obtain ⟨hfn, hn⟩ := ofInt_exact (i := (v.toNat : Int) - 8192) (by rw [abs_le]; omega)
  obtain ⟨hfd, hd⟩ := ofInt_exact (i := 8192) (by decide)
  obtain ⟨z, hz, hzv⟩ := exists_toUnits_eq (k := ((v.toNat : Int) - 8192) * 2 ^ 136)
    (m := ((v.toNat : Int) - 8192).natAbs) (j := 136) (by rw [Int.natAbs_mul]; rfl) (by omega) (by rw [units_infMag]; omega)
  have hpos : 0 < toUnits (ofInt 8192) := by rw [hd]; positivity
  have hround := correctlyRounded_div hfn hfd hpos.ne'
  rw [Int.sign_eq_one_of_pos hpos, one_mul] at hround
  rw [← hzv]
  refine correctlyRounded_exact hround (by omega) hz ?_
  rw [Int.natAbs_of_nonneg hpos.le, hn, hd, hzv]
  ring

/-- Settles O19, from the exact value of the bend. -/
theorem bendIsExact : Obligations.BendIsExact := by
  intro v
  have hv := v.isLt
  obtain ⟨hf, hval⟩ := bendOf_exact v
  obtain ⟨hlow, -⟩ := (within_iff (by decide) (by decide)).1 (within_bendOf v)
  refine ⟨hf, by rw [hval]; ring, hlow, ?_⟩
  rw [lt_iff_toUnits hf isFinite_one, hval, toUnits_one]
  omega

/-! ## Messages -/

/-- The 14 bits of a bend, the second data byte above the first (30_encoding.md R86). -/
theorem bendRaw_eq (d1 d2 : Data7) : bendRaw d1 d2 = BitVec.ofNat 14 (d2.toNat * 128 + d1.toNat) := by
  have h1 := d1.isLt
  have h2 := d2.isLt
  have hor : d2.toNat <<< 7 ||| d1.toNat = d2.toNat * 128 + d1.toNat := by
    rw [← Nat.shiftLeft_add_eq_or_of_lt h1, Nat.shiftLeft_eq]
  apply BitVec.eq_of_toNat_eq
  simp only [bendRaw, BitVec.toNat_or, BitVec.toNat_shiftLeft, BitVec.toNat_setWidth, BitVec.toNat_ofNat]
  rw [Nat.mod_eq_of_lt (show d2.toNat < 2 ^ 14 by omega), Nat.mod_eq_of_lt (show d1.toNat < 2 ^ 14 by omega),
    Nat.mod_eq_of_lt (show d2.toNat <<< 7 < 2 ^ 14 by rw [Nat.shiftLeft_eq]; omega), hor]
  omega

theorem midBlock_eq (b : Block) : midBlock b = decide (b.samplePos ≠ 0#9) := by
  rw [midBlock, Bool.eq_iff_iff, bne_iff_ne, decide_eq_true_iff]

theorem evqFull_eq_false {b : Block} (h : b.evq.length ≠ 32) : evqFull Config.hw b = false := by
  rw [evqFull_hw]
  exact decide_eq_false h

/-- An accepted message that queues an event. -/
theorem accept_enqueue {f : Block → Block} {s : State} {e : Event} (h : s.block.evq.length ≠ 32)
    (hf : f s.block = enqueue e s.block) :
    accept f s = .next { s with
      block := { s.block with evq := s.block.evq ++ [{ event := e, mid := decide (s.block.samplePos ≠ 0#9) }] }
      resp := .accepted } := by
  rw [accept_of_room (evqFull_eq_false h), hf, enqueue, midBlock_eq]

/-- Settles O18. -/
theorem messageEffects : Obligations.MessageEffects := by
  intro s h
  have hroom := evqFull_eq_false h
  refine ⟨fun d1 => accept_enqueue h rfl, fun d1 d2 hd => accept_enqueue h (if_pos hd),
    fun d1 d2 => accept_enqueue h rfl, fun d1 d2 => ?_, fun _ _ _ => accept_of_room hroom,
    fun _ _ _ => accept_of_room hroom⟩
  rw [← bendRaw_eq]
  exact accept_of_room hroom

/-! ## The reset state -/

/-- After RESET no voice sounds. -/
theorem get_voices_reset (c : Config) (i : Fin 4) : (Block.reset c).voices.get i = Voice.reset := by
  fin_cases i <;> rfl

theorem voiceView_reset (view : VoiceView) : voiceView view Voice.reset = 0#32 := by cases view <;> decide

theorem regRead_voice (c : Config) (b : Block) {a : Byte} (h : 0x10 ≤ a.toNat) (h' : a.toNat ≤ 0x1F) :
    regRead c b a = voiceView (viewOf (a.toNat - 0x10)) (b.voices.get (slotOf (a.toNat - 0x10))) := by
  unfold regRead
  split
  case h_11 => exact if_pos (by omega)
  all_goals omega

/-- A tick skips the voices where none is active (44_render.md R220). -/
theorem renderVoices_of_inactive {c : Config} {b : Block} (h : ∀ i, active b i = false) :
    renderVoices c b = { voices := b.voices, mix := zero } := by
  have hturn (i : Fin 4) (l : Live) (wf : Word) (pm : Num32) :
      voiceTurn c l wf pm { voices := b.voices, mix := zero } i = { voices := b.voices, mix := zero } :=
    if_neg (Bool.eq_false_iff.1 (h i))
  simp only [renderVoices, List.foldl_cons, List.foldl_nil, hturn]

/-- The first tick after RESET is a whole block start with an empty queue, and a silent sample (44_render.md R220). -/
theorem tick_reset (draws : Nat) :
    tick Config.hw (Block.reset Config.hw) draws =
      { block := { Block.reset Config.hw with
          samplePos := 1#9, wfLatch := (Block.reset Config.hw).waveform, pbLatch := (Block.reset Config.hw).pitchBend }
        mix := zero, draws := draws } := by
  have hstart : blockStart Config.hw { block := Block.reset Config.hw, draws := draws } =
      { block := latchSnapshot (Block.reset Config.hw), draws := draws } := if_pos rfl
  have hsilent (i : Fin 4) : active (latchSnapshot (Block.reset Config.hw)) i = false :=
    congrArg Voice.active (get_voices_reset Config.hw i)
  rw [tick, hstart]
  dsimp only
  rw [renderVoices_of_inactive hsilent]
  rfl

/-- Settles O30. -/
theorem resetStateReadsZero : Obligations.ResetStateReadsZero := by
  refine ⟨by decide, by decide, rfl, fun a h h' => ?_, _, rfl, ?_, ?_⟩
  · rw [regRead_voice _ _ h h']
    change voiceView _ ((Block.reset Config.hw).voices.get _) = _
    rw [get_voices_reset, voiceView_reset]
  · change Response.word (num2word (tick Config.hw (Block.reset Config.hw) 0).mix) = _
    rw [tick_reset]
    rfl
  · change (tick Config.hw (Block.reset Config.hw) 0).block = _
    rw [tick_reset]
    rfl

/-! ## The fields of the views -/

/-- A field moved to its place in a register word. -/
theorem toNat_setWidth_shiftLeft {n : Nat} (x : BitVec n) {off : Nat} (h : n + off ≤ 32) :
    (x.setWidth 32 <<< off).toNat = x.toNat * 2 ^ off := by
  have hx : x.toNat * 2 ^ off < 2 ^ 32 :=
    calc x.toNat * 2 ^ off < 2 ^ n * 2 ^ off := Nat.mul_lt_mul_of_pos_right x.isLt (Nat.two_pow_pos off)
      _ = 2 ^ (n + off) := (pow_add 2 n off).symm
      _ ≤ 2 ^ 32 := Nat.pow_le_pow_right (by decide) h
  have hn : x.toNat < 2 ^ 32 := x.isLt.trans_le (Nat.pow_le_pow_right (by decide) (by omega))
  rw [BitVec.toNat_shiftLeft, BitVec.toNat_setWidth, Nat.mod_eq_of_lt hn, Nat.shiftLeft_eq, Nat.mod_eq_of_lt hx]

/-- Fields that do not overlap add up. -/
theorem toNat_or_of_dvd {x y : Word} (k : Nat) (hx : 2 ^ k ∣ x.toNat) (hy : y.toNat < 2 ^ k) :
    (x ||| y).toNat = x.toNat + y.toNat := by
  obtain ⟨q, hq⟩ := hx
  rw [BitVec.toNat_or, hq, Nat.two_pow_add_eq_or_of_lt hy]

theorem extractLsb'_eq_of_toNat {w n off : Nat} {x : BitVec w} {y : BitVec n} (h : x.toNat / 2 ^ off % 2 ^ n = y.toNat) :
    x.extractLsb' off n = y := by
  apply BitVec.eq_of_toNat_eq
  rw [BitVec.extractLsb'_toNat, Nat.shiftRight_eq_div_pow, h]

theorem getLsbD_eq_extractLsb' {w : Nat} (x : BitVec w) {i n : Nat} (h : i < n) :
    x.getLsbD i = (x.extractLsb' 0 n).getLsbD i := by
  simp [h]

theorem active_eq (v : Voice) : v.active = decide (v.env ≠ .idle) := by
  rw [Voice.active, Bool.eq_iff_iff, bne_iff_ne, decide_eq_true_iff]

theorem envCode_le (e : EnvState) : (envCode e).toNat ≤ 4 := by cases e <;> decide

/-- VSTATE as a number (10_state.md R38). -/
theorem vstateWord_toNat (v : Voice) :
    (vstateWord v).toNat = (envCode v.env).toNat * 2 ^ 8 + v.active.toNat * 2 ^ 7 + v.note.toNat := by
  have hnote := v.note.isLt
  have hactive := v.active.toNat_lt
  have hcode := toNat_setWidth_shiftLeft (envCode v.env) (off := 8) (by decide)
  have hact := toNat_setWidth_shiftLeft (BitVec.ofBool v.active) (off := 7) (by decide)
  rw [BitVec.toNat_ofBool] at hact
  have hlow : (v.note.setWidth 32).toNat = v.note.toNat := by rw [BitVec.toNat_setWidth]; omega
  have htop := toNat_or_of_dvd 8 (x := (envCode v.env).setWidth 32 <<< 8)
    (y := (BitVec.ofBool v.active).setWidth 32 <<< 7) (by omega) (by omega)
  rw [vstateWord, toNat_or_of_dvd 7 (by omega) (by omega), htop, hcode, hact, hlow]

/-- STATUS0 as a number (10_state.md R37). -/
theorem status0_toNat (b : Block) :
    (status0 b).toNat = (pstData1 b.pst).toNat * 2 ^ 16 + (pstStatus b.pst).toNat * 2 ^ 8 +
      (pstCode b.pst).toNat * 2 ^ 6 + b.cursor.val * 2 ^ 4 + (activeBits b).toNat := by
  have hstatus := (pstStatus b.pst).isLt
  have hpst := (pstCode b.pst).isLt
  have hcursor := b.cursor.isLt
  have hactive := (activeBits b).isLt
  have h16 := toNat_setWidth_shiftLeft (pstData1 b.pst) (off := 16) (by decide)
  have h8 := toNat_setWidth_shiftLeft (pstStatus b.pst) (off := 8) (by decide)
  have h6 := toNat_setWidth_shiftLeft (pstCode b.pst) (off := 6) (by decide)
  have h4 := toNat_setWidth_shiftLeft (BitVec.ofNat 2 b.cursor.val) (off := 4) (by decide)
  rw [BitVec.toNat_ofNat, Nat.mod_eq_of_lt (show b.cursor.val < 2 ^ 2 from hcursor)] at h4
  have h0 : ((activeBits b).setWidth 32).toNat = (activeBits b).toNat := by rw [BitVec.toNat_setWidth]; omega
  have hor8 := toNat_or_of_dvd 16 (x := (pstData1 b.pst).setWidth 32 <<< 16)
    (y := (pstStatus b.pst).setWidth 32 <<< 8) (by omega) (by omega)
  have hor6 := toNat_or_of_dvd 8 (x := (pstData1 b.pst).setWidth 32 <<< 16 ||| (pstStatus b.pst).setWidth 32 <<< 8)
    (y := (pstCode b.pst).setWidth 32 <<< 6) (by omega) (by omega)
  have hor4 := toNat_or_of_dvd 6 (x := (pstData1 b.pst).setWidth 32 <<< 16 ||| (pstStatus b.pst).setWidth 32 <<< 8 |||
    (pstCode b.pst).setWidth 32 <<< 6) (y := (BitVec.ofNat 2 b.cursor.val).setWidth 32 <<< 4) (by omega) (by omega)
  rw [status0, toNat_or_of_dvd 4 (by omega) (by omega), hor4, hor6, hor8, h16, h8, h6, h4, h0]

/-- STATUS1 as a number (10_state.md R37). -/
theorem status1_toNat (b : Block) :
    (status1 Config.hw b).toNat =
      (decide (b.evq.length = 32)).toNat * 2 ^ 22 + b.evq.length % 2 ^ 6 * 2 ^ 16 + b.samplePos.toNat := by
  have hpos := b.samplePos.isLt
  have hcount := toNat_setWidth_shiftLeft (BitVec.ofNat 6 (evqCount b)) (off := 16) (by decide)
  rw [BitVec.toNat_ofNat, evqCount] at hcount
  have hfull := toNat_setWidth_shiftLeft (BitVec.ofBool (evqFull Config.hw b)) (off := 22) (by decide)
  rw [BitVec.toNat_ofBool, evqFull_hw] at hfull
  have hlow : (b.samplePos.setWidth 32).toNat = b.samplePos.toNat := by rw [BitVec.toNat_setWidth]; omega
  have htop := toNat_or_of_dvd 22 (x := (BitVec.ofBool (evqFull Config.hw b)).setWidth 32 <<< 22)
    (y := (BitVec.ofNat 6 (evqCount b)).setWidth 32 <<< 16) (by rw [evqFull_hw]; omega) (by rw [evqCount]; omega)
  rw [status1, evqFull_hw, evqCount] at *
  rw [toNat_or_of_dvd 16 (by omega) (by omega), htop, hfull, hcount, hlow]

theorem vstateWord_fields (v : Voice) :
    (vstateWord v).extractLsb' 0 7 = v.note ∧ (vstateWord v).getLsbD 7 = v.active ∧
    (vstateWord v).extractLsb' 8 3 = envCode v.env ∧ (vstateWord v).extractLsb' 11 21 = 0#21 := by
  have hnum := vstateWord_toNat v
  have hnote := v.note.isLt
  have hactive := v.active.toNat_lt
  have hcode := (envCode v.env).isLt
  have hbit : (vstateWord v).extractLsb' 7 1 = BitVec.ofBool v.active :=
    extractLsb'_eq_of_toNat (by rw [BitVec.toNat_ofBool]; omega)
  refine ⟨extractLsb'_eq_of_toNat (by omega), ?_, extractLsb'_eq_of_toNat (by omega), extractLsb'_eq_of_toNat (by
    rw [BitVec.toNat_ofNat]; omega)⟩
  simpa using congrArg (BitVec.getLsbD · 0) hbit

theorem status0_fields (b : Block) :
    (status0 b).extractLsb' 0 4 = activeBits b ∧ (status0 b).extractLsb' 4 2 = BitVec.ofNat 2 b.cursor.val ∧
    (status0 b).extractLsb' 6 2 = pstCode b.pst ∧ (status0 b).extractLsb' 8 8 = pstStatus b.pst ∧
    (status0 b).extractLsb' 16 7 = pstData1 b.pst ∧ (status0 b).extractLsb' 23 9 = 0#9 := by
  have hnum := status0_toNat b
  have hdata := (pstData1 b.pst).isLt
  have hstatus := (pstStatus b.pst).isLt
  have hpst := (pstCode b.pst).isLt
  have hcursor := b.cursor.isLt
  have hactive := (activeBits b).isLt
  refine ⟨?_, ?_, ?_, ?_, ?_, ?_⟩ <;> apply extractLsb'_eq_of_toNat
  case refine_2 | refine_6 => rw [BitVec.toNat_ofNat]; omega
  all_goals omega

theorem activeBits_getLsbD (b : Block) (i : Fin 4) : (activeBits b).getLsbD i.val = active b i := by
  fin_cases i <;> simp [activeBits]

theorem status1_fields (b : Block) :
    (status1 Config.hw b).extractLsb' 0 9 = b.samplePos ∧ (status1 Config.hw b).extractLsb' 9 7 = 0#7 ∧
    (status1 Config.hw b).extractLsb' 16 6 = BitVec.ofNat 6 b.evq.length ∧
    (status1 Config.hw b).getLsbD 22 = decide (b.evq.length = 32) ∧ (status1 Config.hw b).extractLsb' 23 9 = 0#9 := by
  have hnum := status1_toNat b
  have hpos := b.samplePos.isLt
  have hfull := (decide (b.evq.length = 32)).toNat_lt
  have hbit : (status1 Config.hw b).extractLsb' 22 1 = BitVec.ofBool (decide (b.evq.length = 32)) :=
    extractLsb'_eq_of_toNat (by rw [BitVec.toNat_ofBool]; omega)
  refine ⟨extractLsb'_eq_of_toNat (by omega), extractLsb'_eq_of_toNat (by rw [BitVec.toNat_ofNat]; omega),
    extractLsb'_eq_of_toNat (by rw [BitVec.toNat_ofNat]; omega), ?_,
    extractLsb'_eq_of_toNat (by rw [BitVec.toNat_ofNat]; omega)⟩
  simpa using congrArg (BitVec.getLsbD · 0) hbit

/-- Settles O26, from the fields of the three words. -/
theorem statusAndVoiceViewFields : Obligations.StatusAndVoiceViewFields := by
  refine ⟨⟨rfl, rfl, rfl, rfl, rfl⟩, ⟨rfl, rfl, rfl⟩, fun _ => ⟨rfl, rfl, rfl⟩, fun _ _ => ⟨rfl, rfl, rfl⟩, fun v => ?_,
    fun b => ?_⟩
  · obtain ⟨hnote, hactive, hcode, hzero⟩ := vstateWord_fields v
    exact ⟨hnote, hactive.trans (active_eq v), hcode, hzero, envCode_le v.env⟩
  · obtain ⟨hbits, hcursor, hpst, hstatus, hdata, hzero⟩ := status0_fields b
    obtain ⟨hpos, hzero9, hcount, hfull, hzero23⟩ := status1_fields b
    refine ⟨fun i => ?_, ?_, hpst, hstatus, hdata, hzero, hpos, hzero9, fun hlen => ?_, hfull, hzero23⟩
    · rw [getLsbD_eq_extractLsb' _ i.isLt, hbits, activeBits_getLsbD]
      exact active_eq _
    · rw [hcursor, BitVec.toNat_ofNat]
      exact Nat.mod_eq_of_lt b.cursor.isLt
    · rw [hcount, BitVec.toNat_ofNat]
      omega

end Sys2Proof.Machine

/-! # Steps, messages and register writes -/

namespace Sys2Proof.Machine

open Num32

/-! ## One instruction, one step -/

theorem accept_answers (f : Block → Block) (s : State) :
    ∃ b r, accept f s = .next { s with block := b, resp := r } := by
  cases h : evqFull Config.hw s.block with
  | true => exact ⟨_, _, accept_of_full h⟩
  | false => exact ⟨_, _, accept_of_room h⟩

/-- Every instruction answers a next state and leaves the agents' words and the grants alone (60_exceptions.md R270). -/
theorem exec_answers (i : Instr) (s : State) :
    ∃ b r k, exec i s = .next { s with block := b, resp := r, draws := k } := by
  have stream (f : Block → Block) : ∃ b r k, accept f s = .next { s with block := b, resp := r, draws := k } := by
    obtain ⟨b, r, h⟩ := accept_answers f s
    exact ⟨b, r, s.draws, h⟩
  cases i with
  | byteIn | byteData | byteStatusNoteoff | byteStatusNoteon | byteStatusA0 | byteStatusB0 | byteStatusC0 | byteStatusD0
  | byteStatusPitchbend | byteStatusF0 | byteStatusCh1 | byteStatusCh2to3 | byteStatusCh4to7 | byteStatusCh8to15T8toB
  | byteStatusCh8to15TCtoD | byteStatusCh8to15TE | byteRealtime | msgNoteonVel0 | msgNoteon | msgNoteoff | msgPitchbend
  | msgOtherChannel | msgUnrecognized => exact stream _
  | wrCutoff | wrResonance | wrAttack | wrDecay | wrSustain | wrRelease | wrWaveform | wrIgnored07 | wrIgnored08to0F
  | wrIgnored10to1F | wrIgnored20to3F | wrIgnored40to7F | wrIgnored80toFF | txnReserved0 | txnReserved5
  | txnReserved6to7 | txnReserved8toB | txnReservedCtoD | txnReservedE | reset => exact ⟨_, _, s.draws, rfl⟩
  | rdCutoff | rdResonance | rdAttack | rdDecay | rdSustain | rdRelease | rdWaveform | rdPitchbend | rdStatus0
  | rdStatus1 | rdVoice | rdReserved0Ato0B | rdReserved0Cto0F | rdReserved20to3F | rdReserved40to7F
  | rdReserved80toFF => exact ⟨s.block, _, s.draws, rfl⟩
  | sampleTick => exact ⟨_, _, _, rfl⟩

theorem exec_keeps_agents (i : Instr) (s : State) :
    ∃ t, exec i s = .next t ∧ t.grants = s.grants ∧ ∀ a, pending t a = pending s a := by
  obtain ⟨b, r, k, h⟩ := exec_answers i s
  exact ⟨_, h, rfl, fun a => by cases a <;> rfl⟩

section
variable {s t : State} {a : Agent} {gs : List Agent} {w : Raw} {ws : List Raw} {i : Instr}

theorem dropGrant_of_cons (hg : s.grants = a :: gs) : dropGrant s = { s with grants := gs } := by
  rw [dropGrant, hg, List.tail_cons]

theorem step_of_quiet (hg : s.grants = []) : step s = .next s := by
  simp only [step, offered, hg]

theorem step_of_nothing (hg : s.grants = a :: gs) (hp : pending s a = []) : step s = .next (dropGrant s) := by
  simp only [step, offered, hg, hp]

theorem step_of_word (hg : s.grants = a :: gs) (hp : pending s a = w :: ws) (hd : decode w = .ok i)
    (he : exec i s = .next t) : step s = .next (settle a t) := by
  simp only [step, offered, hg, hp, hd, he]

/-- A settled transaction has used up its grant, and its word unless it was held (60_exceptions.md R272). -/
theorem settle_of_cons (hg : t.grants = a :: gs) (hp : pending t a = w :: ws) :
    settle a t = if t.resp = .hold then { t with grants := gs } else setPending { t with grants := gs } a ws := by
  rw [settle, dropGrant_of_cons hg, hp, List.tail_cons]

end

/-- Settles O7: an instruction answers (`exec_keeps_agents`), and what it answers is settled (`settle_of_cons`). -/
theorem stepRunsTheDecodedInstruction : Obligations.StepRunsTheDecodedInstruction := by
  intro s a gs w ws i hg hp hd
  obtain ⟨t, he, hgrants, hpending⟩ := exec_keeps_agents i s
  refine ⟨wellFormed_of_decode hd, t, he, hgrants, hpending, ?_⟩
  rw [step_of_word hg hp hd he, settle_of_cons (hgrants.trans hg) ((hpending a).trans hp)]

/-- Settles O8, from the two steps that take no word. -/
theorem stepWithNothingOffered : Obligations.StepWithNothingOffered :=
  ⟨fun _ => step_of_quiet, fun _ _ _ hg hp => by rw [step_of_nothing hg hp, dropGrant_of_cons hg]⟩

/-! ## Messages of the byte stream -/

section
variable {s : State} {b : Block} {st : Byte}

theorem onData_of_expectingData1 (hp : b.pst = .expectingData1 st) (d : Data7) :
    onData d b = { b with pst := .expectingData2 st d } := by
  simp only [onData, hp]

theorem onData_of_expectingData2 {d1 : Data7} (hp : b.pst = .expectingData2 st d1) (d : Data7) :
    onData d b = complete st d1 d { b with pst := .expectingData1 st } := by
  simp only [onData, hp]

theorem parseByte_data (d : Data7) (b : Block) : parseByte (d.setWidth 8) b = onData d b := by
  have hd := d.isLt
  have hn : (d.setWidth 8).toNat = d.toNat := BitVec.toNat_setWidth_of_le (by decide)
  have hback : (d.setWidth 8).setWidth 7 = d := by
    rw [BitVec.setWidth_setWidth_of_le d (by decide), BitVec.setWidth_eq]
  rcases parseByte_cases (d.setWidth 8) b with ⟨h, -⟩ | ⟨h, -, -⟩ | ⟨-, h⟩
  · omega
  · omega
  · rw [h, hback]

theorem exec_byteIn_status (hlen : s.block.evq.length ≠ 32) (hlo : 0x80 ≤ st.toNat) (hhi : st.toNat ≤ 0xF7) :
    exec (.byteIn st) s = .next { s with block := onStatus st s.block, resp := .accepted } := by
  refine (accept_of_room (evqFull_eq_false hlen)).trans ?_
  rcases parseByte_cases st s.block with ⟨h, -⟩ | ⟨-, -, h⟩ | ⟨h, -⟩
  · omega
  · rw [h]
  · omega

theorem exec_byteIn_data (hlen : s.block.evq.length ≠ 32) (d : Data7) :
    exec (.byteIn (d.setWidth 8)) s = .next { s with block := onData d s.block, resp := .accepted } := by
  rw [← parseByte_data]
  exact accept_of_room (evqFull_eq_false hlen)

/-- Two data bytes after a status complete a message, and the status keeps running (40_parser.md R103). -/
theorem exec_byteIn_data_pair (hlen : s.block.evq.length ≠ 32) (hp : s.block.pst = .expectingData1 st)
    (d1 d2 : Data7) : ∃ t, exec (.byteIn (d1.setWidth 8)) s = .next t ∧
      exec (.byteIn (d2.setWidth 8)) t = .next { s with block := complete st d1 d2 s.block, resp := .accepted } := by
  refine ⟨{ s with block := { s.block with pst := .expectingData2 st d1 }, resp := .accepted }, ?_, ?_⟩
  · rw [exec_byteIn_data hlen, onData_of_expectingData1 hp]
  · refine (exec_byteIn_data (by exact hlen) d2).trans ?_
    rw [onData_of_expectingData2 rfl, ← hp]

theorem complete_noteOn {vel : Data7} (h : vel ≠ 0#7) (n : Data7) (b : Block) :
    complete 0x90#8 n vel b = enqueue (.noteOn n) b := if_pos h

theorem complete_noteOn_vel0 (n : Data7) (b : Block) : complete 0x90#8 n 0#7 b = enqueue (.noteOff n) b := rfl

end

/-- Settles O20: the status byte, and twice a pair of data bytes under it (`exec_byteIn_data_pair`). -/
theorem noteMessagesFullAndRunning : Obligations.NoteMessagesFullAndRunning := by
  intro s n n' vel hlen hvel
  have hstatus := exec_byteIn_status (s := s) (st := 0x90#8) (by omega) (by decide) (by decide)
  obtain ⟨t2, hn, hfull⟩ := exec_byteIn_data_pair
    (s := { s with block := onStatus 0x90#8 s.block, resp := .accepted }) (st := 0x90#8)
    (show s.block.evq.length ≠ 32 by omega) rfl n vel
  rw [complete_noteOn hvel] at hfull
  obtain ⟨t4, hn', hrunning⟩ := exec_byteIn_data_pair
    (s := { s with block := enqueue (.noteOn n) (onStatus 0x90#8 s.block), resp := .accepted }) (st := 0x90#8)
    (by rw [enqueue_evq, onStatus_evq, List.length_append, List.length_singleton]; omega) rfl n' 0#7
  rw [complete_noteOn_vel0] at hrunning
  refine ⟨_, t2, _, t4, _, hstatus, hn, hfull, hn', hrunning, ?_⟩
  simp only [enqueue, onStatus, midBlock_eq, List.append_assoc, List.cons_append, List.nil_append]

/-! ## The register space -/

/-- The address of a numeric parameter (10_state.md R28). -/
def paramAddr (p : Param) : Byte :=
  match p with
  | .cutoff => 0x00#8
  | .resonance => 0x01#8
  | .attack => 0x02#8
  | .decay => 0x03#8
  | .sustain => 0x04#8
  | .release => 0x05#8

theorem paramAddr_le (p : Param) : (paramAddr p).toNat ≤ 0x05 := by cases p <;> decide

/-- An address is a numeric parameter's, WAVEFORM's, or one that no write reaches (45_register_port.md R250 to R252). -/
theorem addr_cases (a : Byte) : (∃ p, a = paramAddr p) ∨ a = 0x06#8 ∨ 0x07 ≤ a.toNat := by
  have hlow : ∀ a : Byte, a.toNat < 0x07 → a = 0x06#8 ∨ a = paramAddr .cutoff ∨ a = paramAddr .resonance ∨
      a = paramAddr .attack ∨ a = paramAddr .decay ∨ a = paramAddr .sustain ∨ a = paramAddr .release := by decide
  rcases Nat.lt_or_ge a.toNat 0x07 with h | h
  · rcases hlow a h with h | h | h | h | h | h | h
    · exact .inr (.inl h)
    all_goals exact .inl ⟨_, h⟩
  · exact .inr (.inr h)

/-! ### Reads -/

@[simp] theorem regRead_paramAddr (c : Config) (b : Block) (p : Param) : regRead c b (paramAddr p) = getParam p b := by
  cases p <;> rfl

@[simp] theorem regRead_waveform (c : Config) (b : Block) : regRead c b 0x06#8 = b.waveform := rfl

/-- From PITCHBEND on no address shows a parameter register. -/
theorem regRead_congr {c : Config} {b b' : Block} {a : Byte} (h : 0x07 ≤ a.toNat) (hbend : b'.pitchBend = b.pitchBend)
    (hpst : b'.pst = b.pst) (hcursor : b'.cursor = b.cursor) (hvoices : b'.voices = b.voices)
    (hpos : b'.samplePos = b.samplePos) (hevq : b'.evq = b.evq) : regRead c b' a = regRead c b a := by
  have hbits : activeBits b' = activeBits b := by simp only [activeBits, active, hvoices]
  unfold regRead
  split
  case h_8 => rw [hbend]
  case h_9 => simp only [status0, hpst, hcursor, hbits]
  case h_10 => simp only [status1, evqFull, evqCount, hevq, hpos]
  case h_11 => rw [hvoices]
  all_goals omega

/-! ### Writes -/

theorem exec_decodeWrite_param (p : Param) (d : Word) (s : State) :
    exec (decodeWrite (paramAddr p) d) s = silent (writeParam p d) s := by
  cases p <;> rfl

theorem exec_decodeWrite_waveform (d : Word) (s : State) :
    exec (decodeWrite 0x06#8 d) s = silent (fun b => { b with waveform := d }) s := rfl

theorem exec_decodeWrite_ignored {a : Byte} (h : 0x07 ≤ a.toNat) (d : Word) (s : State) :
    exec (decodeWrite a d) s = ignoredWrite s := by
  unfold decodeWrite
  split
  case h_8 => rfl
  case h_9 => split_ifs <;> rfl
  all_goals omega

/-- The write clamp, by the corner cases of 45_register_port.md R250. -/
theorem clampUnit_eq_storedUnit (d : Word) : clampUnit d = storedUnit d := by
  have hle : le zero one = true := by decide
  unfold storedUnit
  split_ifs with hnan hlo hhi
  · obtain ⟨-, hfalse, -⟩ := comparison_false_of_isNaN (x := zero) (.inr hnan)
    exact clamp_of_not_le hfalse
  · exact clamp_of_lt_lo hlo
  · exact clamp_of_hi_lt hle hhi
  · rw [Bool.not_eq_true] at hnan
    rw [lt_eq_not_le hnan (by decide), Bool.not_eq_true, Bool.not_eq_false'] at hlo
    rw [lt_eq_not_le (by decide) hnan, Bool.not_eq_true, Bool.not_eq_false'] at hhi
    exact clamp_of_between hlo hhi

theorem writeParam_writeParam (p : Param) (d : Word) (b : Block) :
    writeParam p d (writeParam p d b) = writeParam p d b := by
  cases p <;> rfl

theorem regRead_writeParam_ne {x : Byte} {p : Param} (h : x ≠ paramAddr p) (c : Config) (d : Word) (b : Block) :
    regRead c (writeParam p d b) x = regRead c b x := by
  unfold writeParam
  rcases addr_cases x with ⟨q, rfl⟩ | rfl | hx
  · have hq : q ≠ p := fun hq => h (congrArg paramAddr hq)
    rw [regRead_paramAddr, regRead_paramAddr, getParam_setParam_ne _ _ hq]
  · rw [regRead_waveform, regRead_waveform, setParam_waveform]
  · exact regRead_congr hx (setParam_pitchBend _ _ _) (setParam_pst _ _ _) (setParam_cursor _ _ _)
      (setParam_voices _ _ _) (setParam_samplePos _ _ _) (setParam_evq _ _ _)

theorem regRead_setWaveform_ne {x : Byte} (h : x ≠ 0x06#8) (c : Config) (d : Word) (b : Block) :
    regRead c { b with waveform := d } x = regRead c b x := by
  rcases addr_cases x with ⟨q, rfl⟩ | rfl | hx
  · rw [regRead_paramAddr, regRead_paramAddr]
    cases q <;> rfl
  · exact absurd rfl h
  · exact regRead_congr hx rfl rfl rfl rfl rfl rfl

/-- Settles O25, by the three kinds of addresses (`addr_cases`). -/
theorem readAfterWrite : Obligations.ReadAfterWrite := by
  intro a d s
  rcases addr_cases a with ⟨p, rfl⟩ | rfl | ha
  · have hp := paramAddr_le p
    refine ⟨_, exec_decodeWrite_param p d s, fun _ => ?_, fun h => ?_, fun h => ?_, fun x hx => ?_, ?_⟩
    · rw [regRead_paramAddr, getParam_writeParam_same, clampUnit_eq_storedUnit]
    · rw [h] at hp
      exact absurd hp (by decide)
    · omega
    · exact regRead_writeParam_ne hx _ _ _
    · rw [exec_decodeWrite_param, silent, writeParam_writeParam]
  · exact ⟨_, exec_decodeWrite_waveform d s, fun h => absurd h (by decide), fun _ => rfl,
      fun h => absurd h (by decide), fun x hx => regRead_setWaveform_ne hx _ _ _, rfl⟩
  · refine ⟨_, exec_decodeWrite_ignored ha d s, fun h => by omega, fun h => ?_, fun _ => rfl, fun _ _ => rfl,
      exec_decodeWrite_ignored ha d _⟩
    rw [h] at ha
    exact absurd ha (by decide)

end Sys2Proof.Machine

/-! # Block starts and ticks -/

namespace Sys2Proof.Machine

open Num32

/-! ## The block start of this hardware -/

/-- Events applied in the order of the list (44_render.md R221). -/
def applyEvents (es : List Event) (b : Block) : Block := es.foldl (fun b e => applyEvent e b) b

/-- Without LEGACY_RACE a queue is its events, applied in order. -/
theorem foldl_drainEntry_of_no_race {c : Config} (h : c.legacyRace = false) (q : List Entry) (d : Drained) :
    q.foldl (drainEntry c) d = { d with block := applyEvents (q.map Entry.event) d.block } := by
  induction q generalizing d with
  | nil => rfl
  | cons e q ih => rw [List.foldl_cons, ih, drainEntry_of_no_race h]; rfl

theorem blockStart_hw {d : Drained} (h : d.block.samplePos = 0#9) :
    blockStart Config.hw d =
      { d with block := latchSnapshot (applyEvents (d.block.evq.map Entry.event) { d.block with evq := [] }) } := by
  rw [blockStart, if_pos h, drainEvents, foldl_drainEntry_of_no_race rfl]

/-- Events write the voices and the cursor only (41_voice_envelope.md R141, R142). -/
theorem applyEvents_frame (es : List Event) (b : Block) :
    ∃ vs k, applyEvents es b = { b with voices := vs, cursor := k } := by
  induction es generalizing b with
  | nil => exact ⟨_, _, rfl⟩
  | cons e es ih =>
    obtain ⟨vs, k, h⟩ := ih (applyEvent e b)
    exact ⟨vs, k, h.trans (by cases e <;> rfl)⟩

theorem tickStart_of_inside {s : State} (h : s.block.samplePos ≠ 0#9) : tickStart s = s.block := by
  rw [tickStart, blockStart_of_inside h]

/-- The events leave WAVEFORM, PITCHBEND and the emptied queue alone, so the latches take what the tick found. -/
theorem tickStart_of_blockStart {s : State} (h : s.block.samplePos = 0#9) :
    tickStart s = { applyEvents (s.block.evq.map Entry.event) { s.block with evq := [] } with
      wfLatch := s.block.waveform, pbLatch := s.block.pitchBend } ∧ (tickStart s).evq = [] := by
  obtain ⟨vs, k, hes⟩ := applyEvents_frame (s.block.evq.map Entry.event) { s.block with evq := [] }
  rw [tickStart, blockStart_hw h, latchSnapshot, hes]
  exact ⟨rfl, rfl⟩

/-- Settles O32. -/
theorem blockStartDrainsThenLatches : Obligations.BlockStartDrainsThenLatches := fun _ =>
  ⟨tickStart_of_inside, tickStart_of_blockStart⟩

/-! ## The voices of a tick -/

/-- Turns of different slots: each slot whose turn comes is processed once, if active, and the others keep. -/
theorem get_foldl_voiceTurn (c : Config) (l : Live) (wf : Word) (pm : Num32) {is : List (Fin 4)} (hnodup : is.Nodup)
    (m : Mixing) (j : Fin 4) :
    (is.foldl (voiceTurn c l wf pm) m).voices.get j =
      if j ∈ is ∧ (m.voices.get j).active = true then voiceSample c l wf pm (m.voices.get j)
      else m.voices.get j := by
  induction is generalizing m with
  | nil => simp
  | cons i is ih =>
    obtain ⟨hi, his⟩ := List.nodup_cons.1 hnodup
    rw [List.foldl_cons, ih his]
    by_cases hj : j = i
    · subst hj
      simp [hi, voiceTurn_get_same]
    · simp [hj, voiceTurn_get_ne _ _ _ _ _ hj]

theorem get_renderVoices (b : Block) (i : Fin 4) : (renderVoices Config.hw b).voices.get i = voiceAfter b i := by
  have hmem : i ∈ ([0, 1, 2, 3] : List (Fin 4)) := by revert i; decide
  rw [renderVoices, get_foldl_voiceTurn _ _ _ _ (by decide)]
  simp only [hmem, true_and]
  rfl

theorem get_tick_voices (b : Block) (draws : Nat) (i : Fin 4) :
    (tick Config.hw b draws).block.voices.get i =
      voiceAfter (blockStart Config.hw { block := b, draws := draws }).block i := by
  rw [tick_voices, get_renderVoices]

theorem voiceAfter_of_active {b : Block} {i : Fin 4} (h : active b i = true) :
    voiceAfter b i = sampledFrom b (b.voices.get i) := if_pos h

/-! ## A note that ends in the block it begins in -/

/-- From level 0.0 a release ends in its first tick, whatever the parameters hold (41_voice_envelope.md R147). -/
theorem releaseStep_of_level_zero (b : Block) {v : Voice} (h : v.level = zero) :
    releaseStep Config.hw (readLive b) v = { v with level := zero, env := .idle } := by
  have hx : within (-1) 0 (sub v.level (releaseDec Config.hw (readLive b))) :=
    h ▸ within_sub within_zero (within_releaseDec b) (by decide) (by decide)
  obtain ⟨-, hle⟩ := (within_iff (by decide) (by decide)).1 hx
  exact if_pos (ofInt_zero ▸ hle)

/-- The voice that a NoteOn allocates, released by a NoteOff of its note. -/
theorem releaseIfHolds_attackVoice (n : Data7) :
    releaseIfHolds n (attackVoice n) = { attackVoice n with env := .release } := by
  simp [releaseIfHolds, attackVoice, Voice.active]

theorem applyEvents_noteOn_noteOff_voice (n : Data7) (b : Block) :
    (applyEvents [.noteOn n, .noteOff n] b).voices.get b.cursor = { attackVoice n with env := .release } := by
  change (applyNoteOff n (applyNoteOn n b)).voices.get b.cursor = _
  rw [applyNoteOff_voices, Pool.get_map, applyNoteOn_voices, Pool.get_set_same, releaseIfHolds_attackVoice]

/-- A voice released before its first sample: that sample's release step ends it. -/
theorem voiceAfter_of_released_attackVoice {b : Block} {i : Fin 4} {n : Data7}
    (h : b.voices.get i = { attackVoice n with env := .release }) :
    (voiceAfter b i).env = .idle ∧ (voiceAfter b i).level = zero ∧ (voiceAfter b i).note = n := by
  have hstep : envStep Config.hw (readLive b) { attackVoice n with env := .release } =
      { attackVoice n with level := zero, env := .idle } := releaseStep_of_level_zero b rfl
  obtain ⟨hnote, henv, hlevel, -⟩ := voiceSample_fields Config.hw (readLive b) b.wfLatch
    (pitchMul Config.hw b.pbLatch) { attackVoice n with env := .release }
  rw [voiceAfter_of_active (by rw [active, h]; rfl), h, sampledFrom, henv, hlevel, hnote, hstep]
  exact ⟨rfl, rfl, rfl⟩

/-- Settles O44: when its sample begins, the slot is released at level 0.0 (`applyEvents_noteOn_noteOff_voice`). -/
theorem noteOnThenOffGoesIdleInOneTick : Obligations.NoteOnThenOffGoesIdleInOneTick := by
  intro b n m m' hpos hq
  have hstart : (blockStart Config.hw { block := b, draws := 0 }).block =
      latchSnapshot (applyEvents [.noteOn n, .noteOff n] { b with evq := [] }) := by
    rw [blockStart_hw hpos, hq]; rfl
  obtain ⟨henv, hlevel, hnote⟩ := voiceAfter_of_released_attackVoice
    (b := latchSnapshot (applyEvents [.noteOn n, .noteOff n] { b with evq := [] }))
    (applyEvents_noteOn_noteOff_voice n { b with evq := [] })
  rw [tickBlock, get_tick_voices, hstart]
  refine ⟨henv, hlevel, hnote, ?_⟩
  change (blockStart Config.hw { block := b, draws := 0 }).block.cursor.val = _
  rw [hstart]
  rfl

/-! ## A tick inside a block -/

theorem tick_of_inside {b : Block} (h : b.samplePos ≠ 0#9) (c : Config) (draws : Nat) :
    tick c b draws =
      { block := { b with voices := (renderVoices c b).voices, samplePos := nextPos c b.samplePos }
        mix := (renderVoices c b).mix, draws := draws } := by
  rw [tick, blockStart_of_inside (d := { block := b, draws := draws }) h]

/-- The sample reads the latches, and not what waits for the next block start (44_render.md R222). -/
theorem renderVoices_waiting (c : Config) (b : Block) (w : Word) (p : Num32) (q : List Entry) :
    renderVoices c { b with waveform := w, pitchBend := p, evq := q } = renderVoices c b := rfl

/-- Settles O42: inside a block a tick is its sample (`tick_of_inside`), which reads none of the three. -/
theorem midBlockTickIgnoresWhatWaits : Obligations.MidBlockTickIgnoresWhatWaits := by
  intro s w p q h
  have h' : ({ s.block with waveform := w, pitchBend := p, evq := q } : Block).samplePos ≠ 0#9 := h
  refine ⟨_, _, rfl, rfl, ?_, ?_⟩ <;> simp only [tick_of_inside h, tick_of_inside h', renderVoices_waiting]

end Sys2Proof.Machine

/-! # Decoding, encoding and the table's rows -/

namespace Sys2Proof

/-! ## The fields make up the word -/

theorem txnWord_fields (w : TxnWord) : txnWord (txnKind w) (txnA w) (txnData w) = w := by
  have hw := w.isLt
  apply BitVec.eq_of_toNat_eq
  simp only [txnWord_toNat, txnKind, txnA, txnData, BitVec.extractLsb'_toNat, Nat.shiftRight_eq_div_pow]
  omega

/-- A mask of the top four bits looks only at KIND. -/
theorem and_kindMask (w : TxnWord) (m : Nat) : w.toNat &&& (m * 2 ^ 40) = ((txnKind w).toNat &&& m) * 2 ^ 40 := by
  have hw := w.isLt
  have hsplit : w.toNat = (txnKind w).toNat * 2 ^ 40 + w.toNat % 2 ^ 40 := by
    simp only [txnKind, BitVec.extractLsb'_toNat, Nat.shiftRight_eq_div_pow]
    omega
  rw [hsplit]
  exact and_high _ _ _ _ (Nat.mod_lt _ (by decide))

/-! ## Decoding a word of given fields -/

theorem decode_writeWord (a : Byte) (d : Word) : decode (writeWord a d) = .ok (decodeWrite a d) := by
  simp [writeWord, decode, decodeTxn]

theorem decode_readWord (a : Byte) : decode (readWord a) = .ok (decodeRead a) := by
  simp [readWord, decode, decodeTxn]

theorem decode_bareWord (k : BitVec 4) : decode (bareWord k) = .ok (decodeTxn (txnWord k 0#8 0#32)) := rfl

theorem decodeTxn_of_6to7 : ∀ k, inRange k 0x6 0x7 = true → decodeTxn (txnWord k 0#8 0#32) = .txnReserved6to7 k := by
  decide

theorem decodeTxn_of_8toB : ∀ k, inRange k 0x8 0xB = true → decodeTxn (txnWord k 0#8 0#32) = .txnReserved8toB k := by
  decide

theorem decodeTxn_of_CtoD : ∀ k, inRange k 0xC 0xD = true → decodeTxn (txnWord k 0#8 0#32) = .txnReservedCtoD k := by
  decide

/-- From 0x08 on an address is no parameter's, and its range selects the row (45_register_port.md R252). -/
theorem decodeWrite_of_ge {a : Byte} (h : 0x08 ≤ a.toNat) (d : Word) :
    decodeWrite a d =
      if a.toNat < 0x10 then .wrIgnored08to0F a d
      else if a.toNat < 0x20 then .wrIgnored10to1F a d
      else if a.toNat < 0x40 then .wrIgnored20to3F a d
      else if a.toNat < 0x80 then .wrIgnored40to7F a d
      else .wrIgnored80toFF a d := by
  unfold decodeWrite
  split
  case h_9 => rfl
  all_goals omega

/-- From 0x0A on an address has no register of its own, and its range selects the row (45_register_port.md R253, R254). -/
theorem decodeRead_of_ge {a : Byte} (h : 0x0A ≤ a.toNat) :
    decodeRead a =
      if a.toNat < 0x0C then .rdReserved0Ato0B a
      else if a.toNat < 0x10 then .rdReserved0Cto0F a
      else if a.toNat < 0x20 then .rdVoice (slotOf (a.toNat - 0x10)) (viewOf (a.toNat - 0x10))
      else if a.toNat < 0x40 then .rdReserved20to3F a
      else if a.toNat < 0x80 then .rdReserved40to7F a
      else .rdReserved80toFF a := by
  unfold decodeRead
  split
  case h_11 => rfl
  all_goals omega

theorem decodeRead_voiceAddr (i : Fin 4) (v : VoiceView) : decodeRead (voiceAddr i v) = .rdVoice i v := by
  fin_cases i <;> cases v <;> rfl

/-! ## Decoding a byte -/

theorem decodeByte_data : ∀ v : Data7, decodeByte (v.setWidth 8) = .byteData v := by decide +kernel

/-- The rows of MIDI_BYTE8 that keep the byte as their operand (30_encoding.md R82). -/
def bytesOfSeveralValues : List (Byte → Instr) :=
  [.byteStatusCh1, .byteStatusCh2to3, .byteStatusCh4to7, .byteStatusCh8to15T8toB, .byteStatusCh8to15TCtoD,
   .byteStatusCh8to15TE, .byteRealtime]

theorem decodeByte_of_wellFormed : ∀ row ∈ bytesOfSeveralValues, ∀ b : Byte,
    wellFormed (row b) = true → decodeByte b = row b := by decide +kernel

/-! ## Decoding a message -/

/-- A 7-bit value in a byte has its leading bit clear. -/
theorem msb_setWidth_data (d : Data7) : (d.setWidth 8).msb = false := by
  simp [BitVec.msb_setWidth]

theorem decode_msgWord {s : Byte} (hs : isStatus s = true) (d1 d2 : Data7) :
    decode (.msg (msgWord s d1 d2)) = .ok (decodeMessage s d1 d2) := by
  have hback (d : Data7) : (d.setWidth 8).setWidth 7 = d := by
    rw [BitVec.setWidth_setWidth_of_le d (by decide), BitVec.setWidth_eq]
  simp only [decode, decodeMsg, msgStatus_msgWord, msgD1_msgWord, msgD2_msgWord, hs, if_true, msb_setWidth_data,
    Bool.or_self, Bool.false_eq_true, if_false, hback]

/-- A message of another channel is no message of the three channel-0 statuses that have rows of their own. -/
theorem decodeMessage_otherChannel {s : Byte} (h : channel s ≠ 0) (d1 d2 : Data7) :
    decodeMessage s d1 d2 = .msgOtherChannel s d1 d2 := by
  have hne (t : Byte) (ht : channel t = 0) : s ≠ t := fun hst => h (hst ▸ ht)
  rw [decodeMessage, if_neg (hne _ rfl), if_neg (hne _ rfl), if_neg (hne _ rfl), if_pos h]

theorem isStatus_of_isUnrecognized : ∀ s : Byte, isUnrecognized s = true → isStatus s = true := by decide +kernel

theorem decodeMessage_unrecognized {s : Byte} (h : isUnrecognized s = true) (d1 d2 : Data7) :
    decodeMessage s d1 d2 = .msgUnrecognized s d1 d2 := by
  simp only [isUnrecognized, Bool.or_eq_true, beq_iff_eq] at h
  rcases h with (((rfl | rfl) | rfl) | rfl) | rfl <;> rfl

/-! ## The round trip -/

/-- By the fields that each row's word carries, and the decoder's answer on those fields. -/
theorem decode_encode {i : Instr} (h : wellFormed i = true) : decode (encode i) = .ok i := by
  cases i with
  | byteIn b => simp [encode, decode, decodeTxn]
  | wrCutoff | wrResonance | wrAttack | wrDecay | wrSustain | wrRelease | wrWaveform | wrIgnored07 =>
    exact decode_writeWord _ _
  | wrIgnored08to0F a d | wrIgnored10to1F a d | wrIgnored20to3F a d | wrIgnored40to7F a d | wrIgnored80toFF a d =>
    obtain ⟨hlo, hhi⟩ := inRange_iff.1 h
    rw [encode, decode_writeWord, decodeWrite_of_ge (by omega)]
    simp (disch := omega) only [if_pos, if_neg]
  | rdCutoff | rdResonance | rdAttack | rdDecay | rdSustain | rdRelease | rdWaveform | rdPitchbend | rdStatus0
  | rdStatus1 => exact decode_readWord _
  | rdVoice slot view => rw [encode, decode_readWord, decodeRead_voiceAddr]
  | rdReserved0Ato0B a | rdReserved0Cto0F a | rdReserved20to3F a | rdReserved40to7F a | rdReserved80toFF a =>
    obtain ⟨hlo, hhi⟩ := inRange_iff.1 h
    rw [encode, decode_readWord, decodeRead_of_ge (by omega)]
    simp (disch := omega) only [if_pos, if_neg]
  | sampleTick | reset | txnReserved0 | txnReserved5 | txnReservedE => rfl
  | txnReserved6to7 k => rw [encode, decode_bareWord, decodeTxn_of_6to7 k h]
  | txnReserved8toB k => rw [encode, decode_bareWord, decodeTxn_of_8toB k h]
  | txnReservedCtoD k => rw [encode, decode_bareWord, decodeTxn_of_CtoD k h]
  | byteData v => exact congrArg Decoded.ok (decodeByte_data v)
  | byteStatusNoteoff | byteStatusNoteon | byteStatusA0 | byteStatusB0 | byteStatusC0 | byteStatusD0
  | byteStatusPitchbend | byteStatusF0 => rfl
  | byteStatusCh1 b | byteStatusCh2to3 b | byteStatusCh4to7 b | byteStatusCh8to15T8toB b | byteStatusCh8to15TCtoD b
  | byteStatusCh8to15TE b | byteRealtime b =>
    exact congrArg Decoded.ok (decodeByte_of_wellFormed _ (by simp [bytesOfSeveralValues]) b h)
  | msgNoteonVel0 d1 => exact decode_msgWord rfl d1 0#7
  | msgNoteon d1 d2 =>
    rw [encode, decode_msgWord rfl, decodeMessage, if_pos rfl, if_neg (bne_iff_ne.1 h)]
  | msgNoteoff d1 d2 | msgPitchbend d1 d2 => exact decode_msgWord rfl d1 d2
  | msgOtherChannel s d1 d2 =>
    simp only [wellFormed, Bool.and_eq_true, bne_iff_ne] at h
    obtain ⟨hs, hch⟩ := h
    rw [encode, decode_msgWord hs, decodeMessage_otherChannel hch]
  | msgUnrecognized s d1 d2 =>
    rw [encode, decode_msgWord (isStatus_of_isUnrecognized s h), decodeMessage_unrecognized h]

/-- Settles O1, row by row (`decode_encode`). -/
theorem decodeInvertsEncode : Obligations.DecodeInvertsEncode := fun _ => decode_encode

/-- Settles O2, by the well-formedness of each format's decoder. -/
theorem decodedIsWellFormed : Obligations.DecodedIsWellFormed := fun _ _ => wellFormed_of_decode

/-! ## Every word matches exactly its row -/

/-- An instruction of one of these rows, and a word that passes its row's test. -/
def MatchesOwnRow (rows : List Row) (n : Nat) (i : Instr) : Prop :=
  opcodeRow i ∈ rows ∧ n &&& (opcodeRow i).mask = (opcodeRow i).value

/-- No word passes the tests of two of these rows: where the two masks both look, the two values differ. -/
def DisjointRows (rows : List Row) : Prop :=
  ∀ r ∈ rows, ∀ r' ∈ rows, r.value &&& r'.mask = r'.value &&& r.mask → r = r'

theorem txnRows_disjoint : DisjointRows txnRows := by
  unfold DisjointRows
  decide +kernel

theorem byteRows_disjoint : DisjointRows byteRows := by
  unfold DisjointRows
  decide +kernel

/-- In a table of disjoint rows a word that passes its own row's test passes no other. -/
theorem MatchesOwnRow.exactly {rows : List Row} {n : Nat} {i : Instr} (h : MatchesOwnRow rows n i)
    (hrows : DisjointRows rows) :
    opcodeRow i ∈ rows ∧ ∀ r ∈ rows, (n &&& r.mask = r.value ↔ r = opcodeRow i) := by
  obtain ⟨hmem, hown⟩ := h
  refine ⟨hmem, fun r hr => ⟨fun hmatch => hrows r hr _ hmem ?_, fun hri => hri ▸ hown⟩⟩
  rw [← hmatch, ← hown, Nat.and_assoc, Nat.and_assoc, Nat.and_comm r.mask]

/-- A row of TXN44 does not look at DATA. -/
theorem and_mask_of_mem_txnRows {r : Row} (hr : r ∈ txnRows) (w : TxnWord) :
    w.toNat &&& r.mask = (txnWord (txnKind w) (txnA w) 0#32).toNat &&& r.mask := by
  have hhigh : ∀ r ∈ txnRows, r.mask = r.mask / 2 ^ 32 * 2 ^ 32 := by decide
  rw [hhigh r hr, txnWord_and, ← txnWord_and _ _ (txnData w), txnWord_fields]

theorem opcodeRow_decodeWrite (a : Byte) (d : Word) : opcodeRow (decodeWrite a d) = opcodeRow (decodeWrite a 0#32) := by
  unfold decodeWrite
  split
  case h_9 => split_ifs <;> rfl
  all_goals rfl

theorem matchesOwnRow_decodeWrite {w : TxnWord} (h : txnKind w = 0x2#4) :
    MatchesOwnRow txnRows w.toNat (decodeWrite (txnA w) (txnData w)) := by
  have hzero : ∀ a : Byte, opcodeRow (decodeWrite a 0#32) ∈ txnRows ∧
      (txnWord 0x2#4 a 0#32).toNat &&& (opcodeRow (decodeWrite a 0#32)).mask =
        (opcodeRow (decodeWrite a 0#32)).value := by decide +kernel
  obtain ⟨hmem, hown⟩ := hzero (txnA w)
  rw [MatchesOwnRow, opcodeRow_decodeWrite, and_mask_of_mem_txnRows hmem, h]
  exact ⟨hmem, hown⟩

theorem matchesOwnRow_decodeRead {w : TxnWord} (h : txnKind w = 0x3#4) :
    MatchesOwnRow txnRows w.toNat (decodeRead (txnA w)) := by
  have hzero : ∀ a : Byte, opcodeRow (decodeRead a) ∈ txnRows ∧
      (txnWord 0x3#4 a 0#32).toNat &&& (opcodeRow (decodeRead a)).mask = (opcodeRow (decodeRead a)).value := by
    decide +kernel
  obtain ⟨hmem, hown⟩ := hzero (txnA w)
  rw [MatchesOwnRow, and_mask_of_mem_txnRows hmem, h]
  exact ⟨hmem, hown⟩

/-- A row that tests KIND alone. -/
theorem matchesOwnRow_of_kind {w : TxnWord} {i : Instr} (m v : Nat)
    (hmem : { value := v * 2 ^ 40, mask := m * 2 ^ 40 } ∈ txnRows)
    (hrow : opcodeRow i = { value := v * 2 ^ 40, mask := m * 2 ^ 40 }) (h : (txnKind w).toNat &&& m = v) :
    MatchesOwnRow txnRows w.toNat i := by
  rw [MatchesOwnRow, hrow]
  exact ⟨hmem, by rw [and_kindMask, h]⟩

theorem matchesOwnRow_decodeTxn (w : TxnWord) : MatchesOwnRow txnRows w.toNat (decodeTxn w) := by
  have hk := (txnKind w).isLt
  unfold decodeTxn
  dsimp only
  split
  case h_1 h => exact matchesOwnRow_of_kind 0xF 0x0 (by decide) rfl (by rw [h]; rfl)
  case h_2 h => exact matchesOwnRow_of_kind 0xF 0x1 (by decide) rfl (by rw [h]; rfl)
  case h_3 h => exact matchesOwnRow_decodeWrite (BitVec.eq_of_toNat_eq h)
  case h_4 h => exact matchesOwnRow_decodeRead (BitVec.eq_of_toNat_eq h)
  case h_5 h => exact matchesOwnRow_of_kind 0xF 0x4 (by decide) rfl (by rw [h]; rfl)
  case h_6 h => exact matchesOwnRow_of_kind 0xF 0x5 (by decide) rfl (by rw [h]; rfl)
  case h_7 h | h_8 h => exact matchesOwnRow_of_kind 0xE 0x6 (by decide) rfl (by rw [h]; rfl)
  case h_9 h | h_10 h => exact matchesOwnRow_of_kind 0xE 0xC (by decide) rfl (by rw [h]; rfl)
  case h_11 h => exact matchesOwnRow_of_kind 0xF 0xE (by decide) rfl (by rw [h]; rfl)
  case h_12 h => exact matchesOwnRow_of_kind 0xF 0xF (by decide) rfl (by rw [h]; rfl)
  case h_13 =>
    have hmid : ∀ k : BitVec 4, inRange k 0x8 0xB = true → k.toNat &&& 0xC = 0x8 := by decide
    simp only [imp_false] at *
    exact matchesOwnRow_of_kind 0xC 0x8 (by decide) rfl (hmid _ (inRange_iff.2 (by omega)))

/-- Settles O3: the rows are disjoint, and each word passes its own row's test (`matchesOwnRow_decodeTxn`). -/
theorem txnWordMatchesExactlyItsRow : Obligations.TxnWordMatchesExactlyItsRow := fun w =>
  (matchesOwnRow_decodeTxn w).exactly txnRows_disjoint

theorem matchesOwnRow_decodeByte (b : Byte) : MatchesOwnRow byteRows b.toNat (decodeByte b) := by
  unfold MatchesOwnRow
  revert b
  decide +kernel

/-- Settles O4, as O3: the rows are disjoint, and each byte passes its own row's test. -/
theorem byteMatchesExactlyItsRow : Obligations.ByteMatchesExactlyItsRow := fun b =>
  (matchesOwnRow_decodeByte b).exactly byteRows_disjoint

/-! ## The message table -/

/-- The table of 30_encoding.md R87, its rows tried in order. -/
theorem decodeMessage_firstMatch (s : Byte) (d1 d2 : Data7) :
    decodeMessage s d1 d2 =
      if s = 0x90#8 ∧ d2 = 0#7 then .msgNoteonVel0 d1
      else if s = 0x90#8 then .msgNoteon d1 d2
      else if s = 0x80#8 then .msgNoteoff d1 d2
      else if s = 0xE0#8 then .msgPitchbend d1 d2
      else if s.toNat % 16 ≠ 0 then .msgOtherChannel s d1 d2
      else .msgUnrecognized s d1 d2 := by
  unfold decodeMessage
  by_cases hs : s = 0x90#8
  · simp only [hs, true_and, if_true]
  · simp only [hs, false_and, if_false]
    rfl

theorem decodeMsg_notAStatus {w : MsgWord} (h : isStatus (msgStatus w) = false) : decodeMsg w = .reject .notAStatus := by
  simp only [decodeMsg, h, Bool.false_eq_true, if_false]

theorem decodeMsg_notADataByte {w : MsgWord} (hs : isStatus (msgStatus w) = true)
    (h : ((msgD1 w).msb || (msgD2 w).msb) = true) : decodeMsg w = .reject .notADataByte := by
  simp only [decodeMsg, hs, h, if_true]

theorem isStatus_iff {s : Byte} : isStatus s = true ↔ 0x80 ≤ s.toNat ∧ s.toNat ≤ 0xF7 := inRange_iff

theorem msb_iff {b : Byte} : b.msb = true ↔ 0x80 ≤ b.toNat := by
  rw [BitVec.msb_eq_decide, decide_eq_true_iff]

/-- Settles O5: the table by `decodeMessage_firstMatch`, and each rejection by the test that fails. -/
theorem messageRowFirstMatch : Obligations.MessageRowFirstMatch := by
  refine ⟨fun s d1 d2 hlo hhi => ?_, fun w h => decodeMsg_notAStatus ?_, fun w hlo hhi h => decodeMsg_notADataByte ?_ ?_⟩
  · rw [decode_msgWord (isStatus_iff.2 ⟨hlo, hhi⟩), decodeMessage_firstMatch]
  · rw [Bool.eq_false_iff, ne_eq, isStatus_iff]
    omega
  · exact isStatus_iff.2 ⟨hlo, hhi⟩
  · rwa [Bool.or_eq_true, msb_iff, msb_iff]

/-! ## Words of the spec -/

/-- Settles O6: in all but one word the ignored fields are 0, and the word is its instruction's encoding. -/
theorem specWordsDecode : Obligations.SpecWordsDecode :=
  ⟨decode_encode (i := .byteIn 0x90#8) rfl, decode_encode (i := .wrSustain 0x3FC00000#32) rfl,
   decode_encode (i := .rdVoice 1 .vphase) rfl, decode_encode (i := .sampleTick) rfl, decode_encode (i := .reset) rfl,
   by decide, decode_encode (i := .byteData 0x45#7) rfl, decode_encode (i := .byteStatusPitchbend) rfl,
   decode_encode (i := .byteRealtime 0xF8#8) rfl, decode_encode (i := .msgNoteon 0x40#7 0x7F#7) rfl⟩

end Sys2Proof

/-! # The rows of the byte stream, run -/

namespace Sys2Proof.Machine

/-- An input's answer depends on its effect on this block only. -/
theorem accept_congr {f g : Block → Block} {s : State} (h : f s.block = g s.block) : accept f s = accept g s := by
  rw [accept, accept, h]

/-! ## Bytes -/

theorem exec_byteIn (b : Byte) (s : State) : exec (.byteIn b) s = accept (parseByte b) s := rfl

theorem exec_byteData (d : Data7) (s : State) : exec (.byteData d) s = accept (onData d) s := rfl

/-- A byte is its two nibbles (30_encoding.md R81). -/
theorem eq_of_nibbles {b x : Byte} (htype : statusType b = statusType x) (hchan : statusChan b = statusChan x) :
    b = x := by
  unfold statusType at htype
  unfold statusChan at hchan
  exact BitVec.eq_of_toNat_eq (by omega)

/-- A status byte of channel 0 is the one that its row names (30_encoding.md R82). -/
theorem exec_decodeStatusCh0 {b : Byte} (hb : 0x80 ≤ b.toNat) (hch : channel b = 0) (s : State) :
    exec (decodeStatusCh0 b) s = accept (onStatus b) s := by
  have hlt := b.isLt
  have hval (x : Byte) (h : statusType b = statusType x) (hx : statusChan x = 0) : b = x :=
    eq_of_nibbles h (hx ▸ hch)
  unfold decodeStatusCh0
  split
  case h_1 h => rw [hval 0x80#8 h rfl]; rfl
  case h_2 h => rw [hval 0x90#8 h rfl]; rfl
  case h_3 h => rw [hval 0xA0#8 h rfl]; rfl
  case h_4 h => rw [hval 0xB0#8 h rfl]; rfl
  case h_5 h => rw [hval 0xC0#8 h rfl]; rfl
  case h_6 h => rw [hval 0xD0#8 h rfl]; rfl
  case h_7 h => rw [hval 0xE0#8 h rfl]; rfl
  case h_8 =>
    simp only [imp_false] at *
    rw [hval 0xF0#8 (show b.toNat / 16 = 15 by omega) rfl]; rfl

/-- The row of a status byte opens a message of that status (40_parser.md R102). -/
theorem exec_decodeByte_status {b : Byte} (hlo : 0x80 ≤ b.toNat) (hhi : b.toNat ≤ 0xF7) (s : State) :
    exec (decodeByte b) s = accept (onStatus b) s := by
  rw [decodeByte, if_neg (by omega), if_neg (by omega)]
  split_ifs with hch
  · exact exec_decodeStatusCh0 hlo hch s
  all_goals rfl

/-- Settles O13, by the class of the byte. -/
theorem byteInRunsItsByteRow : Obligations.ByteInRunsItsByteRow := by
  intro b s
  rw [exec_byteIn]
  rcases parseByte_cases b s.block with ⟨hrt, h⟩ | ⟨hlo, hhi, h⟩ | ⟨hdata, h⟩
  · rw [decodeByte, if_neg (by omega), if_pos hrt]
    exact accept_congr (g := onRealTime) h
  · rw [exec_decodeByte_status hlo hhi]
    exact accept_congr h
  · rw [decodeByte, if_pos hdata, exec_byteData]
    exact accept_congr h

/-! ## Messages -/

/-- A channel-0 status that is no note and no bend completes with no effect (40_parser.md R108). -/
theorem complete_unrecognized {st : Byte} (hch : statusChan st = 0) (hon : st ≠ 0x90#8) (hoff : st ≠ 0x80#8)
    (hbend : st ≠ 0xE0#8) (d1 d2 : Data7) (b : Block) : complete st d1 d2 b = b := by
  rw [complete, if_neg (not_not.2 hch)]
  split
  case h_1 htype => exact absurd (eq_of_nibbles (x := 0x90#8) htype hch) hon
  case h_2 htype => exact absurd (eq_of_nibbles (x := 0x80#8) htype hch) hoff
  case h_3 htype => exact absurd (eq_of_nibbles (x := 0xE0#8) htype hch) hbend
  case h_4 => rfl

/-- The row of a message has the effect of its completion (40_parser.md R104). -/
theorem exec_decodeMessage (st : Byte) (d1 d2 : Data7) (s : State) :
    exec (decodeMessage st d1 d2) s = accept (complete st d1 d2) s := by
  unfold decodeMessage
  split_ifs with hon hvel hoff hbend hch
  · subst hon hvel; rfl
  · subst hon; rfl
  · subst hoff; rfl
  · subst hbend; rfl
  · exact accept_congr (if_pos hch).symm
  · exact accept_congr (complete_unrecognized (not_not.1 hch) hon hoff hbend d1 d2 s.block).symm

/-- Settles O17: the byte completes its message, and so does the message's row (`exec_decodeMessage`). -/
theorem dataByteCompletesItsMessage : Obligations.DataByteCompletesItsMessage := by
  intro st d1 d2 s hlen _ hp
  have hroom := evqFull_eq_false hlen
  have hrow : accept (onData d2) s =
      exec (decodeMessage st d1 d2) { s with block := { s.block with pst := .expectingData1 st } } := by
    rw [exec_decodeMessage, accept_of_room hroom, accept_of_room (by exact hroom), onData_of_expectingData2 hp]
  exact ⟨(accept_congr (parseByte_data d2 s.block)).trans hrow, hrow⟩

end Sys2Proof.Machine

/-! # The hold of a full queue, and single bytes -/

namespace Sys2Proof.Machine

/-! ## The hold -/

theorem evqFull_eq_true {b : Block} (h : b.evq.length = 32) : evqFull Config.hw b = true := by
  rw [evqFull_hw]
  exact decide_eq_true h

/-- Every row of the byte stream is an input, with one effect for all states (40_parser.md R100, log 6). -/
theorem exec_stream {i : Instr} (h : isStream i = true) : ∃ f : Block → Block, ∀ s, exec i s = accept f s := by
  cases i with
  | byteIn | byteData | byteStatusNoteoff | byteStatusNoteon | byteStatusA0 | byteStatusB0 | byteStatusC0 | byteStatusD0
  | byteStatusPitchbend | byteStatusF0 | byteStatusCh1 | byteStatusCh2to3 | byteStatusCh4to7 | byteStatusCh8to15T8toB
  | byteStatusCh8to15TCtoD | byteStatusCh8to15TE | byteRealtime | msgNoteonVel0 | msgNoteon | msgNoteoff | msgPitchbend
  | msgOtherChannel | msgUnrecognized => exact ⟨_, fun _ => rfl⟩
  | wrCutoff | wrResonance | wrAttack | wrDecay | wrSustain | wrRelease | wrWaveform | wrIgnored07 | wrIgnored08to0F
  | wrIgnored10to1F | wrIgnored20to3F | wrIgnored40to7F | wrIgnored80toFF | txnReserved0 | txnReserved5
  | txnReserved6to7 | txnReserved8toB | txnReservedCtoD | txnReservedE | reset | rdCutoff | rdResonance | rdAttack
  | rdDecay | rdSustain | rdRelease | rdWaveform | rdPitchbend | rdStatus0 | rdStatus1 | rdVoice | rdReserved0Ato0B
  | rdReserved0Cto0F | rdReserved20to3F | rdReserved40to7F | rdReserved80toFF | sampleTick =>
    exact absurd h Bool.false_ne_true

/-- Settles O12: every row of the stream is an input (`exec_stream`), and EVQ_FULL holds an input. -/
theorem streamHeldWhileQueueFull : Obligations.StreamHeldWhileQueueFull := by
  intro i s hi hlen
  obtain ⟨f, hf⟩ := exec_stream hi
  exact (hf s).trans (accept_of_full (evqFull_eq_true hlen))

/-- Settles O10: the instruction answers the hold (O12), and a held transaction stays its agent's next (`settle_of_cons`). -/
theorem heldWordStays : Obligations.HeldWordStays := by
  intro s a gs w ws i hg hp hd hi hlen
  have hpending : pending { s with resp := .hold } a = w :: ws := by cases a <;> exact hp
  rw [step_of_word hg hp hd (streamHeldWhileQueueFull i s hi hlen), settle_of_cons (by exact hg) hpending, if_pos rfl]

/-- Settles O11: the drain empties the queue (`tickStart_of_blockStart`), the sample leaves it empty, and an input with room is
accepted. -/
theorem blockStartLiftsTheHold : Obligations.BlockStartLiftsTheHold := by
  intro s hpos
  obtain ⟨-, hempty⟩ := tickStart_of_blockStart hpos
  have hroom : (tickStart s).evq.length ≠ 32 := by rw [hempty]; decide
  exact ⟨_, rfl, hempty, fun b => ⟨_, accept_of_room (evqFull_eq_false (by exact hroom)), rfl⟩⟩

/-! ## Single bytes -/

theorem parseByte_realTime {b : Byte} (h : 0xF8 ≤ b.toNat) (blk : Block) : parseByte b blk = blk := if_pos h

theorem onData_of_waitingStatus {b : Block} (hp : b.pst = .waitingStatus) (d : Data7) : onData d b = b := by
  simp only [onData, hp]

/-- Settles O14: each row, and BYTE_IN (`exec_byteIn_status`), has the effect `onStatus` of its byte, which does not look at the
parser state. -/
theorem statusByteOpensMessage : Obligations.StatusByteOpensMessage := by
  intro s hlen opens
  have hrow (x : Byte) : accept (onStatus x) s = opens x := accept_of_room (evqFull_eq_false hlen)
  exact ⟨hrow _, hrow _, hrow _, hrow _, hrow _, hrow _, hrow _, hrow _, hrow, hrow, hrow, hrow, hrow, hrow,
    fun _ => exec_byteIn_status hlen⟩

/-- Settles O15: the class of a real-time byte has no effect, in its row and in BYTE_IN (`parseByte_realTime`). -/
theorem realTimeByteChangesNothing : Obligations.RealTimeByteChangesNothing := by
  intro b s hlen
  have hrow : accept onRealTime s = .next { s with resp := .accepted } := accept_of_room (evqFull_eq_false hlen)
  exact ⟨hrow, fun hb => (accept_congr (parseByte_realTime hb s.block)).trans hrow⟩

/-- Settles O16: the row and BYTE_IN have the one effect `onData`, which the parser state decides. -/
theorem dataByteDroppedOrKept : Obligations.DataByteDroppedOrKept := by
  intro v s hlen
  have hrow : exec (.byteData v) s = .next { s with block := onData v s.block, resp := .accepted } :=
    accept_of_room (evqFull_eq_false hlen)
  have hbyteIn := exec_byteIn_data hlen v
  refine ⟨fun hp => ?_, fun st hp => ?_⟩
  · rw [onData_of_waitingStatus hp] at hrow hbyteIn
    exact ⟨hrow, hbyteIn⟩
  · rw [onData_of_expectingData1 hp] at hrow hbyteIn
    exact ⟨hrow, hbyteIn⟩

end Sys2Proof.Machine

/-! # Events and the envelope -/

namespace Sys2Proof.Machine

open Num32

/-! ## Events -/

/-- Settles O33. -/
theorem noteOnTakesTheSlotAtTheCursor : Obligations.NoteOnTakesTheSlotAtTheCursor := by
  intro n b
  change (applyNoteOn n b).voices.get b.cursor = _ ∧ (∀ i, i ≠ b.cursor → (applyNoteOn n b).voices.get i = _) ∧ _
  rw [applyNoteOn_voices]
  exact ⟨Pool.get_set_same _ _ _, fun i hi => Pool.get_set_ne _ _ hi, advanceCursor_cursor_val _, rfl⟩

theorem releaseIfHolds_eq (n : Data7) (v : Voice) :
    releaseIfHolds n v = if v.env ≠ .idle ∧ v.note = n then { v with env := .release } else v := by
  simp [releaseIfHolds, active_eq]

/-- Settles O34: the slots do not see each other, and each is released if it holds the note (`releaseIfHolds_eq`). -/
theorem noteOffReleasesEveryMatchingVoice : Obligations.NoteOffReleasesEveryMatchingVoice := by
  intro n b
  refine ⟨fun i => ?_, rfl⟩
  change (applyNoteOff n b).voices.get i = _
  rw [applyNoteOff_voices, Pool.get_map, releaseIfHolds_eq]

/-! ## The envelope steps, by their outcomes -/

section
variable {c : Config} {l : Live} {v : Voice}

theorem attackStep_of_reached (h : le one (add v.level (attackInc c l)) = true) :
    attackStep c l v = { v with level := one, env := .decay } := if_pos h

theorem attackStep_of_below (h : le one (add v.level (attackInc c l)) = false) :
    attackStep c l v = { v with level := add v.level (attackInc c l) } := if_neg (by simp [ge, h])

theorem decayStep_of_reached (h : le (sub v.level (decayDec c l)) l.s = true) :
    decayStep c l v = { v with level := l.s, env := .sustain } := if_pos h

theorem decayStep_of_above (h : le (sub v.level (decayDec c l)) l.s = false) :
    decayStep c l v = { v with level := sub v.level (decayDec c l) } := if_neg (by simp [h])

theorem releaseStep_of_reached (h : le (sub v.level (releaseDec c l)) zero = true) :
    releaseStep c l v = { v with level := zero, env := .idle } := if_pos h

theorem releaseStep_of_above (h : le (sub v.level (releaseDec c l)) zero = false) :
    releaseStep c l v = { v with level := sub v.level (releaseDec c l) } := if_neg (by simp [h])

theorem envStep_of_attack (h : v.env = .attack) : envStep c l v = attackStep c l v := by rw [envStep, h]

theorem envStep_of_decay (h : v.env = .decay) : envStep c l v = decayStep c l v := by rw [envStep, h]

theorem envStep_of_sustain (h : v.env = .sustain) : envStep c l v = v := by rw [envStep, h, sustainStep]

theorem envStep_of_release (h : v.env = .release) : envStep c l v = releaseStep c l v := by rw [envStep, h]

end

/-! ## The envelope in a tick -/

/-- The sample of an active voice takes note, state and level from its envelope step (44_render.md R224). -/
theorem voiceAfter_envelope {b : Block} {i : Fin 4} (h : (b.voices.get i).env ≠ .idle) :
    (voiceAfter b i).note = (b.voices.get i).note ∧
    (voiceAfter b i).env = (envStep Config.hw (readLive b) (b.voices.get i)).env ∧
    (voiceAfter b i).level = (envStep Config.hw (readLive b) (b.voices.get i)).level := by
  have hactive : active b i = true := (active_eq _).trans (decide_eq_true h)
  rw [voiceAfter_of_active hactive]
  obtain ⟨hnote, henv, hlevel, -⟩ :=
    voiceSample_fields Config.hw (readLive b) b.wfLatch (pitchMul Config.hw b.pbLatch) (b.voices.get i)
  exact ⟨hnote, henv, hlevel⟩

/-- SAMPLE_TICK completes and takes an active voice through its envelope step. -/
theorem exec_sampleTick_envelope {s : State} {i : Fin 4} {e : EnvState} (he : ((tickStart s).voices.get i).env = e)
    (hne : e ≠ .idle) :
    ∃ t : State, exec .sampleTick s = .next t ∧
      (t.block.voices.get i).note = ((tickStart s).voices.get i).note ∧
      (t.block.voices.get i).env = (envStep Config.hw (readLive (tickStart s)) ((tickStart s).voices.get i)).env ∧
      (t.block.voices.get i).level =
        (envStep Config.hw (readLive (tickStart s)) ((tickStart s).voices.get i)).level := by
  refine ⟨_, rfl, ?_⟩
  dsimp only
  rw [get_tick_voices]
  exact voiceAfter_envelope (he ▸ hne)

theorem rate_hw : rate Config.hw = ofInt 44100 := rfl

section
variable (b : Block)

theorem attackInc_hw : attackInc Config.hw (readLive b) =
    div one (mul (clamp b.attack (ofDec 1 1000) one) (ofInt 44100)) := by rw [attackInc, rate_hw]; rfl

theorem decayDec_hw : decayDec Config.hw (readLive b) =
    div (sub one (clamp b.sustain zero one)) (mul (clamp b.decay (ofDec 1 1000) one) (ofInt 44100)) := by
  rw [decayDec, rate_hw]; rfl

theorem releaseDec_hw : releaseDec Config.hw (readLive b) =
    div (clamp b.sustain zero one) (mul (clamp b.release (ofDec 1 1000) one) (ofInt 44100)) := by
  rw [releaseDec, rate_hw]; rfl

end

/-- Settles O35, by the two outcomes of AttackStep. -/
theorem attackTick : Obligations.AttackTick := by
  intro s i he
  obtain ⟨t, ht, hnote, henv, hlevel⟩ := exec_sampleTick_envelope he nofun
  refine ⟨t, ht, ?_⟩
  dsimp only
  rw [henv, hlevel, envStep_of_attack he, ← attackInc_hw]
  exact ⟨hnote, fun h => by rw [attackStep_of_reached h]; exact ⟨rfl, rfl⟩,
    fun h => by rw [attackStep_of_below h]; exact ⟨rfl, he⟩⟩

/-- Settles O36, by the two outcomes of DecayStep. -/
theorem decayTick : Obligations.DecayTick := by
  intro s i he
  obtain ⟨t, ht, hnote, henv, hlevel⟩ := exec_sampleTick_envelope he nofun
  refine ⟨t, ht, ?_⟩
  dsimp only
  rw [henv, hlevel, envStep_of_decay he, ← decayDec_hw]
  exact ⟨hnote, fun h => by rw [decayStep_of_reached h]; exact ⟨rfl, rfl⟩,
    fun h => by rw [decayStep_of_above h]; exact ⟨rfl, he⟩⟩

/-- Settles O37: SustainStep has no effect. -/
theorem sustainTick : Obligations.SustainTick := by
  intro s i he
  obtain ⟨t, ht, hnote, henv, hlevel⟩ := exec_sampleTick_envelope he nofun
  rw [envStep_of_sustain he] at henv hlevel
  exact ⟨t, ht, hlevel, henv.trans he, hnote⟩

/-- Settles O38, by the two outcomes of ReleaseStep. -/
theorem releaseTick : Obligations.ReleaseTick := by
  intro s i he
  obtain ⟨t, ht, hnote, henv, hlevel⟩ := exec_sampleTick_envelope he nofun
  refine ⟨t, ht, ?_⟩
  dsimp only
  rw [henv, hlevel, envStep_of_release he, ← releaseDec_hw]
  exact ⟨hnote, fun h => by rw [releaseStep_of_reached h]; exact ⟨rfl, rfl⟩,
    fun h => by rw [releaseStep_of_above h]; exact ⟨rfl, he⟩⟩

end Sys2Proof.Machine

/-! # Envelopes that end and that do not -/

namespace Sys2Proof.Machine

open Num32

/-! ## Ticks while no event waits -/

section
variable {b : Block}

theorem tickBlock_sustain (b : Block) : (tickBlock b).sustain = b.sustain := by
  obtain ⟨vs, k, wl, pl, pos, q, ht, -⟩ := tick_frame Config.hw b 0
  rw [tickBlock, ht]

theorem tickBlock_evq_of_quiet (hq : b.evq = []) : (tickBlock b).evq = [] := by
  obtain ⟨vs, k, wl, pl, pos, q, ht, rfl | rfl⟩ := tick_frame Config.hw b 0 <;> rw [tickBlock, ht]
  exact hq

/-- With an empty queue a block start only latches. -/
theorem blockStart_of_quiet (hq : b.evq = []) (draws : Nat) :
    ∃ wl pl, (blockStart Config.hw { block := b, draws := draws }).block = { b with wfLatch := wl, pbLatch := pl } := by
  by_cases hpos : b.samplePos = 0#9
  · refine ⟨b.waveform, b.pitchBend, ?_⟩
    rw [blockStart_hw hpos]
    simp only [hq, List.map_nil, applyEvents, List.foldl_nil, latchSnapshot]
  · exact ⟨_, _, congrArg Drained.block (blockStart_of_inside hpos)⟩

/-- While no event waits, a tick takes an active voice through its envelope step. -/
theorem tickBlock_envelope_of_quiet {i : Fin 4} {e : EnvState} (hq : b.evq = []) (he : (b.voices.get i).env = e)
    (hne : e ≠ .idle) :
    ((tickBlock b).voices.get i).env = (envStep Config.hw (readLive b) (b.voices.get i)).env ∧
    ((tickBlock b).voices.get i).level = (envStep Config.hw (readLive b) (b.voices.get i)).level := by
  obtain ⟨wl, pl, hstart⟩ := blockStart_of_quiet hq 0
  rw [tickBlock, get_tick_voices, hstart]
  obtain ⟨-, henv, hlevel⟩ :=
    voiceAfter_envelope (b := { b with wfLatch := wl, pbLatch := pl }) (i := i) (he ▸ hne)
  exact ⟨henv, hlevel⟩

end

/-- A step that reaches its goal or comes nearer to it reaches it. -/
theorem exists_iterate_of_measure {α : Type} {f : α → α} {P Q : α → Prop} (m : α → Nat)
    (h : ∀ a, P a → Q (f a) ∨ P (f a) ∧ m (f a) < m a) {a : α} (ha : P a) : ∃ k, Q (f^[k] a) := by
  induction hn : m a using Nat.strong_induction_on generalizing a with
  | _ n ih =>
    rcases h a ha with hQ | ⟨hP, hlt⟩
    · exact ⟨1, hQ⟩
    · obtain ⟨k, hk⟩ := ih _ (hn ▸ hlt) hP rfl
      exact ⟨k + 1, hk⟩

/-! ## What rounding cannot lose -/

/-- No finite Num is nearer to the exact result than a finite result is. -/
theorem abs_sub_le_of_correctlyRounded {r : Num32} {num : Int} {den : Nat} (h : CorrectlyRounded r num den)
    (hr : isFinite r = true) {z : Num32} (hz : isFinite z = true) : |toUnits r * den - num| ≤ |toUnits z * den - num| := by
  unfold CorrectlyRounded at h
  split at h
  · rw [h] at hr
    exact absurd hr (by cases decide (num < 0) <;> decide)
  · obtain ⟨-, hnear⟩ := h
    exact (hnear z hz).1

section
variable {r z : Num32} {num : Int} {den : Nat} (h : CorrectlyRounded r num den) (hd : 0 < den)
  (hr : isFinite r = true) (hz : isFinite z = true)
include h hd hr hz

/-- A finite result is no less than any Num that the exact result is no less than. -/
theorem le_toUnits_of_correctlyRounded (hle : toUnits z * den ≤ num) : toUnits z ≤ toUnits r := by
  by_contra! hlt
  have hstep : toUnits r * den < toUnits z * den := mul_lt_mul_of_pos_right hlt (by exact_mod_cast hd)
  have hnear := abs_sub_le_of_correctlyRounded h hr hz
  rw [abs_of_nonpos (by omega), abs_of_nonpos (by omega)] at hnear
  omega

/-- A finite result is no greater than any Num that the exact result is no greater than. -/
theorem toUnits_le_of_correctlyRounded (hge : num ≤ toUnits z * den) : toUnits r ≤ toUnits z := by
  by_contra! hlt
  have hstep : toUnits z * den < toUnits r * den := mul_lt_mul_of_pos_right hlt (by exact_mod_cast hd)
  have hnear := abs_sub_le_of_correctlyRounded h hr hz
  rw [abs_of_nonneg (by omega), abs_of_nonneg (by omega)] at hnear
  omega

end

/-- The multiples of 2^n units, up to 24 bits. -/
theorem exists_toUnits_eq_mul_two_pow {k : Int} {n : Nat} (hk : |k| ≤ 2 ^ 24) (hn : n ≤ 149) :
    ∃ z, isFinite z = true ∧ toUnits z = k * 2 ^ n := by
  have hm : k.natAbs ≤ 2 ^ 24 := by rw [Int.abs_eq_natAbs] at hk; exact_mod_cast hk
  have hnat : (k * 2 ^ n).natAbs = k.natAbs * 2 ^ n := by rw [Int.natAbs_mul, Int.natAbs_pow]; rfl
  refine exists_toUnits_eq hnat hm ?_
  rw [hnat, units_infMag]
  calc k.natAbs * 2 ^ n ≤ 2 ^ 24 * 2 ^ 149 := Nat.mul_le_mul hm (Nat.pow_le_pow_right (by decide) hn)
    _ < 2 ^ 24 * 2 ^ 253 := by decide

/-- In [0, 1] the Nums are no further apart than 2^-24, so a level lowered by that much falls, whatever the rounding. -/
theorem toUnits_sub_lt {x d : Num32} (hx : within 0 1 x) (hd : within 0 1 d) (h : 2 ^ 125 ≤ toUnits d) :
    toUnits (sub x d) < toUnits x := by
  obtain ⟨hfx, hx0, hx1⟩ := hx
  obtain ⟨hfr, -⟩ := within_sub ⟨hfx, hx0, hx1⟩ hd (by decide) (by decide)
  obtain ⟨hfd, -⟩ := hd
  obtain ⟨z, hz, hzv⟩ := exists_toUnits_eq_mul_two_pow (k := (toUnits x - 1) / 2 ^ 125) (n := 125)
    (by rw [abs_le]; omega) (by decide)
  have hle := toUnits_le_of_correctlyRounded (correctlyRounded_sub hfx hfd) Nat.one_pos hfr hz
    (by rw [Nat.cast_one, mul_one]; omega)
  omega

/-- A level in [0, 1] raised by 2^-23 rises, whatever the rounding. -/
theorem lt_toUnits_add {x d : Num32} (hx : within 0 1 x) (hd : within 0 1 d) (h : 2 ^ 126 ≤ toUnits d) :
    toUnits x < toUnits (add x d) := by
  obtain ⟨hfx, hx0, hx1⟩ := hx
  obtain ⟨hfr, -⟩ := within_add ⟨hfx, hx0, hx1⟩ hd (by decide) (by decide)
  obtain ⟨hfd, -⟩ := hd
  obtain ⟨z, hz, hzv⟩ := exists_toUnits_eq_mul_two_pow (k := toUnits x / 2 ^ 126 + 1) (n := 126)
    (by rw [abs_le]; omega) (by decide)
  have hle := le_toUnits_of_correctlyRounded (correctlyRounded_add hfx hfd) Nat.one_pos hfr hz
    (by rw [Nat.cast_one, mul_one]; omega)
  omega

/-- A stage has at most 44100 ticks, fewer than 2^16, so a tick's share of `x` is at least 2^-16 of it
(41_voice_envelope.md R140). -/
theorem le_toUnits_div_ticks {x : Num32} (hx : within 0 1 x) (t : Num32) {n : Nat} (hn : n ≤ 149)
    (h : 2 ^ n * 2 ^ 16 ≤ toUnits x) : 2 ^ n ≤ toUnits (div x (mul (clampTime t) (rate Config.hw))) := by
  have hticks := within_ticks t
  obtain ⟨hfr, -⟩ := within_div_of_one_le hx hticks
  obtain ⟨hfx, -⟩ := hx
  obtain ⟨hfy, hy1, hyh⟩ := hticks
  generalize mul (clampTime t) (rate Config.hw) = y at *
  have hpos : 0 < toUnits y := by omega
  have hden : ((toUnits y).natAbs : Int) = toUnits y := Int.natAbs_of_nonneg hpos.le
  obtain ⟨z, hz, hzv⟩ := exists_toUnits_eq_mul_two_pow (k := 1) (n := n) (by decide) hn
  rw [one_mul] at hzv
  rw [← hzv]
  refine le_toUnits_of_correctlyRounded (correctlyRounded_div hfx hfy hpos.ne') (by omega) hfr hz ?_
  rw [hden, hzv, Int.sign_eq_one_of_pos hpos, one_mul]
  calc (2 : Int) ^ n * toUnits y ≤ 2 ^ n * (2 ^ 16 * 2 ^ 149) := by gcongr; omega
    _ = 2 ^ n * 2 ^ 16 * 2 ^ 149 := by ring
    _ ≤ toUnits x * 2 ^ 149 := by gcongr

/-! ## Every attack ends -/

/-- The attack increment is never lost to rounding: it is at least 2^-23 (41_voice_envelope.md R144, R150). -/
theorem le_toUnits_attackInc (b : Block) : 2 ^ 126 ≤ toUnits (attackInc Config.hw (readLive b)) :=
  le_toUnits_div_ticks (inUnit_iff.1 inUnit_one) b.attack (by decide) (by rw [toUnits_one]; decide)

/-- A voice in Attack while no event waits. -/
def Attacking (i : Fin 4) (b : Block) : Prop :=
  b.evq = [] ∧ (b.voices.get i).env = .attack ∧ inUnit (b.voices.get i).level

/-- A tick ends the attack or brings the level nearer to 1.0. -/
theorem attacking_tickBlock {i : Fin 4} {b : Block} (h : Attacking i b) :
    ((tickBlock b).voices.get i).env = .decay ∨ Attacking i (tickBlock b) ∧
      (2 ^ 149 - toUnits ((tickBlock b).voices.get i).level).toNat <
        (2 ^ 149 - toUnits (b.voices.get i).level).toNat := by
  obtain ⟨hq, he, hlevel⟩ := h
  obtain ⟨henv', hlevel'⟩ := tickBlock_envelope_of_quiet hq he nofun
  rw [envStep_of_attack he] at henv' hlevel'
  cases hx : le one (add (b.voices.get i).level (attackInc Config.hw (readLive b)))
  case true =>
    rw [attackStep_of_reached hx] at henv'
    exact .inl henv'
  case false =>
    obtain ⟨hunit, -⟩ := levelOk_attackStep b hlevel he
    rw [attackStep_of_below hx] at henv' hlevel' hunit
    have hrise := lt_toUnits_add (inUnit_iff.1 hlevel) (within_attackInc b) (le_toUnits_attackInc b)
    obtain ⟨-, -, hle⟩ := inUnit_iff.1 hunit
    dsimp only at henv' hlevel' hle
    refine .inr ⟨⟨tickBlock_evq_of_quiet hq, henv'.trans he, hlevel' ▸ hunit⟩, ?_⟩
    rw [hlevel']
    omega

/-- Settles O53: the level comes nearer to 1.0 until it reaches it (`attacking_tickBlock`). -/
theorem attackEnds : Obligations.AttackEnds := fun _ i hq he hlevel =>
  exists_iterate_of_measure (fun b => (2 ^ 149 - toUnits (b.voices.get i).level).toNat)
    (P := Attacking i) (Q := fun b => (b.voices.get i).env = .decay) (fun _ => attacking_tickBlock) ⟨hq, he, hlevel⟩

/-! ## Releases that end -/

/-- A clamp keeps a lower bound that lies between its own bounds. -/
theorem le_clamp {x y lo hi : Num32} (hlo : le lo y = true) (hhi : le y hi = true) (h : le y x = true) :
    le y (clamp x lo hi) = true := by
  obtain ⟨hnlo, hny, hkey⟩ := le_iff_key.1 hlo
  obtain ⟨-, hnhi, hkey'⟩ := le_iff_key.1 hhi
  obtain ⟨-, hnx, hkey''⟩ := le_iff_key.1 h
  have hlox : le lo x = true := le_iff_key.2 ⟨hnlo, hnx, by omega⟩
  cases hx : le x hi
  case true => rwa [clamp_of_between hlox hx]
  case false =>
    rwa [clamp_of_hi_lt (le_iff_key.2 ⟨hnlo, hnhi, by omega⟩) (by rw [lt_eq_not_le hnhi hnx, hx]; rfl)]

/-- From SUSTAIN 2^-8 on the release decrement is never lost to rounding: it is at least 2^-24 (41_voice_envelope.md R147,
70_reset_and_hazards.md R299). -/
theorem le_toUnits_releaseDec {b : Block} (h : le (ofDec 1 256) b.sustain = true) :
    2 ^ 125 ≤ toUnits (releaseDec Config.hw (readLive b)) := by
  have hs := within_readLive_s b
  refine le_toUnits_div_ticks hs b.release (by decide) ?_
  obtain ⟨hfin, hval⟩ : isFinite (ofDec 1 256) = true ∧ toUnits (ofDec 1 256) = 2 ^ 125 * 2 ^ 16 := by decide +kernel
  obtain ⟨hfs, -⟩ := hs
  rw [← hval, ← le_iff_toUnits hfin hfs]
  exact le_clamp (by decide +kernel) (by decide +kernel) h

/-- A released voice while no event waits, with SUSTAIN at least 2^-8. -/
def Releasing (i : Fin 4) (b : Block) : Prop :=
  b.evq = [] ∧ (b.voices.get i).env = .release ∧ inUnit (b.voices.get i).level ∧ le (ofDec 1 256) b.sustain = true

/-- A tick ends the release or lowers the level. -/
theorem releasing_tickBlock {i : Fin 4} {b : Block} (h : Releasing i b) :
    ((tickBlock b).voices.get i).env = .idle ∨ Releasing i (tickBlock b) ∧
      (toUnits ((tickBlock b).voices.get i).level).toNat < (toUnits (b.voices.get i).level).toNat := by
  obtain ⟨hq, he, hlevel, hs⟩ := h
  obtain ⟨henv', hlevel'⟩ := tickBlock_envelope_of_quiet hq he nofun
  rw [envStep_of_release he] at henv' hlevel'
  cases hx : le (sub (b.voices.get i).level (releaseDec Config.hw (readLive b))) zero
  case true =>
    rw [releaseStep_of_reached hx] at henv'
    exact .inl henv'
  case false =>
    obtain ⟨hunit, -⟩ := levelOk_releaseStep b hlevel he
    rw [releaseStep_of_above hx] at henv' hlevel' hunit
    have hfall := toUnits_sub_lt (inUnit_iff.1 hlevel) (within_releaseDec b) (le_toUnits_releaseDec hs)
    obtain ⟨-, hge, -⟩ := inUnit_iff.1 hunit
    dsimp only at henv' hlevel' hge
    refine .inr ⟨⟨tickBlock_evq_of_quiet hq, henv'.trans he, hlevel' ▸ hunit, (tickBlock_sustain b).symm ▸ hs⟩, ?_⟩
    rw [hlevel']
    omega

/-- Settles O52: the level falls until it reaches 0.0 (`releasing_tickBlock`). -/
theorem releaseEndsWhenSustainIsLargeEnough : Obligations.ReleaseEndsWhenSustainIsLargeEnough :=
  fun _ i hq he hlevel hs =>
    exists_iterate_of_measure (fun b => (toUnits (b.voices.get i).level).toNat)
      (P := Releasing i) (Q := fun b => (b.voices.get i).env = .idle) (fun _ => releasing_tickBlock)
      ⟨hq, he, hlevel, hs⟩

/-! ## A release that never ends -/

/-- Away from 0 a Num is the only one of its value. -/
theorem eq_of_toUnits_eq {x y : Num32} (h : toUnits x = toUnits y) (hy : toUnits y ≠ 0) : x = y := by
  have hmag : mag x = mag y := units_strictMono.injective (by rw [← natAbs_toUnits, ← natAbs_toUnits, h])
  have hsign : neg? x = neg? y := by rw [neg_eq_decide_toUnits (h ▸ hy), neg_eq_decide_toUnits hy, h]
  rw [← pack_neg_mag x, ← pack_neg_mag y, hsign, hmag]

theorem isInf_or_isFinite {x : Num32} (h : isNaN x = false) : isInf x = true ∨ isFinite x = true := by
  simp only [isNaN, decide_eq_false_iff_not] at h
  simp only [isInf, isFinite, beq_iff_eq, decide_eq_true_eq]
  omega

/-- Taking a zero of either sign off a value above 0 keeps it, an infinity included. -/
theorem sub_zero_of_pos {x d : Num32} (hx : lt zero x = true) (hd : isFinite d = true) (hd0 : toUnits d = 0) :
    sub x d = x := by
  obtain ⟨-, hnan, -⟩ := lt_iff_key.1 hx
  rcases isInf_or_isFinite hnan with hinf | hfin
  · have hd' := (isFinite_neg d).trans hd
    simp [sub, addWith, hnan, hinf, isNaN_of_isFinite hd', isInf_of_isFinite hd']
  · have hpos := (lt_iff_toUnits isFinite_zero hfin).1 hx
    rw [toUnits_zero] at hpos
    obtain ⟨-, hval⟩ := correctlyRounded_exact (correctlyRounded_sub hfin hd) Nat.one_pos hfin (by simp [hd0])
    exact eq_of_toUnits_eq hval hpos.ne'

/-- With SUSTAIN 0, of either sign, the release decrement is 0 (70_reset_and_hazards.md R299). -/
theorem toUnits_releaseDec_of_sustain_zero {b : Block} (h : eq b.sustain zero = true) :
    toUnits (releaseDec Config.hw (readLive b)) = 0 := by
  obtain ⟨hns, hn0, hkey⟩ := eq_iff_key.1 h
  have hge : le zero b.sustain = true := le_iff_key.2 ⟨hn0, hns, hkey.ge⟩
  have hle : le b.sustain one = true := le_iff_key.2 ⟨hns, by decide, hkey.trans_le (by decide)⟩
  have hs : (readLive b).s = b.sustain := clamp_of_between hge hle
  have hs0 : toUnits b.sustain = 0 := toUnits_zero ▸ (key_eq_key_iff _ _).1 hkey
  have hfs := isFinite_of_between isFinite_zero isFinite_one hge hle
  obtain ⟨hfy, hy1, -⟩ := within_ticks b.release
  have hpos : 0 < toUnits (mul (clampTime b.release) (rate Config.hw)) := by omega
  rw [releaseDec, hs]
  obtain ⟨-, hval⟩ := correctlyRounded_exact (correctlyRounded_div hfs hfy hpos.ne') (by omega) isFinite_zero
    (by rw [hs0, toUnits_zero]; ring)
  exact hval.trans toUnits_zero

/-- A voice released at the level `x` while no event waits, with SUSTAIN 0. -/
def StuckAt (x : Num32) (i : Fin 4) (b : Block) : Prop :=
  b.evq = [] ∧ (b.voices.get i).env = .release ∧ (b.voices.get i).level = x ∧ eq b.sustain zero = true

theorem stuckAt_tickBlock {x : Num32} (hx : lt zero x = true) {i : Fin 4} {b : Block} (h : StuckAt x i b) :
    StuckAt x i (tickBlock b) := by
  obtain ⟨hq, he, rfl, hs⟩ := h
  obtain ⟨henv', hlevel'⟩ := tickBlock_envelope_of_quiet hq he nofun
  obtain ⟨hfd, -⟩ := within_releaseDec b
  have hkept := sub_zero_of_pos hx hfd (toUnits_releaseDec_of_sustain_zero hs)
  obtain ⟨hn0, hnx, -⟩ := lt_iff_key.1 hx
  have habove : le (sub (b.voices.get i).level (releaseDec Config.hw (readLive b))) zero = false := by
    rw [hkept]
    simpa [lt_eq_not_le hn0 hnx] using hx
  rw [envStep_of_release he, releaseStep_of_above habove] at henv' hlevel'
  exact ⟨tickBlock_evq_of_quiet hq, henv'.trans he, hlevel'.trans hkept, (tickBlock_sustain b).symm ▸ hs⟩

/-- Settles O54: each tick takes 0 off the level (`stuckAt_tickBlock`). -/
theorem releaseNeverEndsWithZeroSustain : Obligations.ReleaseNeverEndsWithZeroSustain := by
  intro b i hq he hx hs k
  obtain ⟨-, henv, hlevel, -⟩ : StuckAt (b.voices.get i).level i (tickBlock^[k] b) :=
    Function.Iterate.rec _ ⟨hq, he, rfl, hs⟩ (fun _ => stuckAt_tickBlock hx) k
  exact ⟨henv, hlevel⟩

end Sys2Proof.Machine

/-! # The pipeline of a voice -/

namespace Sys2Proof.Machine

open Num32

/-! ## The phase wrap -/

/-- Settles O59: from 0 on a value is at least 0 in units (`le_iff_toUnits`), and the wrap is exact there. -/
theorem phaseWrapIsExact : Obligations.PhaseWrapIsExact := by
  intro p hp hle
  have h0 : 0 ≤ toUnits p := toUnits_zero ▸ (le_iff_toUnits isFinite_zero hp).1 hle
  obtain ⟨hfin, hval⟩ := wrapPhase_exact hp h0
  exact ⟨hfin, hval, inPhase_wrapPhase hp h0⟩

/-! ## Filter and phase in a tick -/

section
variable {b : Block} {i : Fin 4}

/-- The sample of an active voice filters with the level that its envelope step leaves, and advances the old phase
(44_render.md R224). -/
theorem voiceAfter_filter_phase (h : (b.voices.get i).env ≠ .idle) :
    (voiceAfter b i).z =
      resonate (readLive b).r (lowPass (readLive b).c
        (shaped (osc Config.hw b.wfLatch (b.voices.get i).phase) (voiceAfter b i).level) (b.voices.get i).z) ∧
    (voiceAfter b i).phase = wrapPhase (add (b.voices.get i).phase
      (phaseInc Config.hw (pitchMul Config.hw b.pbLatch) (b.voices.get i).note)) := by
  obtain ⟨-, -, hlevel⟩ := voiceAfter_envelope h
  have hactive : active b i = true := (active_eq _).trans (decide_eq_true h)
  obtain ⟨-, -, -, hz, hphase⟩ :=
    voiceSample_fields Config.hw (readLive b) b.wfLatch (pitchMul Config.hw b.pbLatch) (b.voices.get i)
  rw [hlevel, voiceAfter_of_active hactive]
  exact ⟨hz, hphase⟩

/-- A tick skips an inactive voice (44_render.md R220). -/
theorem voiceAfter_of_idle (h : (b.voices.get i).env = .idle) : voiceAfter b i = b.voices.get i := by
  have hactive : active b i = false := (active_eq _).trans (decide_eq_false (not_not_intro h))
  rw [voiceAfter, hactive]
  rfl

end

/-- Settles O40: the tick leaves each slot at `voiceAfter` (`get_tick_voices`), by the two cases of an active and an
inactive voice; the formulas that the statement writes out are those lemmas' functions, unfolded. -/
theorem voicePipelineTick : Obligations.VoicePipelineTick := by
  intro s i
  refine ⟨_, rfl, ?_⟩
  dsimp only
  rw [get_tick_voices]
  exact ⟨voiceAfter_filter_phase, voiceAfter_of_idle⟩

end Sys2Proof.Machine

/-! # The whole tick: its mix, its position and when it drains -/

namespace Sys2Proof.Machine

open Num32

/-! ## The block start, for the rest of the tick -/

section
variable (d : Drained)

/-- This hardware draws no Boolean, so a block start does not move their counter (44_render.md R230). -/
theorem blockStart_hw_draws : (blockStart Config.hw d).draws = d.draws := by
  by_cases hpos : d.block.samplePos = 0#9
  · rw [blockStart_hw hpos]
  · rw [blockStart_of_inside hpos]

theorem blockStart_samplePos (c : Config) : (blockStart c d).block.samplePos = d.block.samplePos := by
  obtain ⟨vs, k, wl, pl, q, h, -⟩ := blockStart_frame c d
  rw [h]

/-- Only a block start empties EVQ (44_render.md R221). -/
theorem blockStart_hw_evq :
    (blockStart Config.hw d).block.evq = if d.block.samplePos = 0#9 then [] else d.block.evq := by
  by_cases hpos : d.block.samplePos = 0#9
  · obtain ⟨vs, k, hes⟩ := applyEvents_frame (d.block.evq.map Entry.event) { d.block with evq := [] }
    rw [blockStart_hw hpos, if_pos hpos, latchSnapshot, hes]
  · rw [blockStart_of_inside hpos, if_neg hpos]

end

theorem toNat_nextPos_hw (p : BitVec 9) : (nextPos Config.hw p).toNat = (p.toNat + 1) % 512 := by
  change (BitVec.ofNat 9 ((p.toNat + 1) % 512)).toNat = _
  rw [BitVec.toNat_ofNat]
  exact Nat.mod_mod _ 512

/-! ## The mix -/

section
variable (b : Block)

/-- A turn adds to the mix what the slot becomes, as long as no turn before it has changed the slot (44_render.md R225). -/
theorem voiceTurn_mix {m : Mixing} {i : Fin 4} (h : m.voices.get i = b.voices.get i) :
    (voiceTurn Config.hw (readLive b) b.wfLatch (pitchMul Config.hw b.pbLatch) m i).mix = mixAfter b i m.mix := by
  by_cases hactive : active b i = true
  · have hturn : (b.voices.get i).active = true := hactive
    simp only [voiceTurn, h, hturn, mixAfter, hactive, if_true, voiceAfter_of_active, sampledFrom]
  · have hturn : ¬ (b.voices.get i).active = true := hactive
    simp only [voiceTurn, h, if_neg hturn, mixAfter, if_neg hactive]

/-- Turns of different slots: no turn changes a slot whose turn comes later, so each adds what its slot becomes. -/
theorem mix_foldl_voiceTurn {is : List (Fin 4)} (hnodup : is.Nodup) {m : Mixing}
    (h : ∀ i ∈ is, m.voices.get i = b.voices.get i) :
    (is.foldl (voiceTurn Config.hw (readLive b) b.wfLatch (pitchMul Config.hw b.pbLatch)) m).mix =
      is.foldl (fun x i => mixAfter b i x) m.mix := by
  induction is generalizing m with
  | nil => rfl
  | cons i is ih =>
    obtain ⟨hi, his⟩ := List.nodup_cons.1 hnodup
    rw [List.foldl_cons, List.foldl_cons, ← voiceTurn_mix b (h i List.mem_cons_self)]
    refine ih his fun j hj => ?_
    have hne : j ≠ i := fun hji => hi (hji ▸ hj)
    rw [voiceTurn_get_ne _ _ _ _ _ hne]
    exact h j (List.mem_cons_of_mem i hj)

/-- The mix of a sample that starts from `b`: the active slots in ascending order, from +0.0 (44_render.md R225). -/
def mixOf : Num32 := [0, 1, 2, 3].foldl (fun x i => mixAfter b i x) zero

theorem renderVoices_mix : (renderVoices Config.hw b).mix = mixOf b :=
  mix_foldl_voiceTurn b (by decide) fun _ _ => rfl

end

/-! ## SAMPLE_TICK -/

/-- SAMPLE_TICK in whole: from the block that the block start leaves, the voices, the position and the mix
(44_render.md R220, R226). -/
theorem exec_sampleTick (s : State) :
    exec .sampleTick s = .next { s with
      block := { tickStart s with
        voices := (renderVoices Config.hw (tickStart s)).voices
        samplePos := nextPos Config.hw s.block.samplePos }
      resp := .word (mixOf (tickStart s)) } := by
  have hdraws : (tick Config.hw s.block s.draws).draws = s.draws := blockStart_hw_draws _
  have hmix : (tick Config.hw s.block s.draws).mix = mixOf (tickStart s) := renderVoices_mix _
  have hblock : (tick Config.hw s.block s.draws).block = { tickStart s with
      voices := (renderVoices Config.hw (tickStart s)).voices
      samplePos := nextPos Config.hw s.block.samplePos } := by
    rw [tick, blockStart_samplePos]
    rfl
  change Host.Outcome.next _ = _
  rw [hdraws, hmix, hblock]
  rfl

/-- Settles O31: the equation of SAMPLE_TICK (`exec_sampleTick`), whose mix is the sum of `mix_foldl_voiceTurn`. -/
theorem tickProcessesTheActiveVoices : Obligations.TickProcessesTheActiveVoices := fun s =>
  ⟨_, exec_sampleTick s, get_renderVoices (tickStart s), rfl, toNat_nextPos_hw s.block.samplePos, rfl⟩

/-! ## When the queue is emptied -/

section
variable (b : Block)

theorem toNat_tickBlock_samplePos : (tickBlock b).samplePos.toNat = (b.samplePos.toNat + 1) % 512 := by
  change (nextPos Config.hw (blockStart Config.hw { block := b, draws := 0 }).block.samplePos).toNat = _
  rw [blockStart_samplePos, toNat_nextPos_hw]

theorem tickBlock_evq : (tickBlock b).evq = if b.samplePos = 0#9 then [] else b.evq :=
  blockStart_hw_evq { block := b, draws := 0 }

/-- SAMPLE_POS counts the ticks, modulo BLOCK_SIZE (44_render.md R226). -/
theorem toNat_iterate_tickBlock_samplePos (j : Nat) :
    (tickBlock^[j] b).samplePos.toNat = (b.samplePos.toNat + j) % 512 := by
  induction j with
  | zero => exact (Nat.mod_eq_of_lt b.samplePos.isLt).symm
  | succ j ih => rw [Function.iterate_succ_apply', toNat_tickBlock_samplePos, ih, Nat.mod_add_mod, Nat.add_assoc]

/-- After `j` ticks the block stands at a block start exactly if they fill up the last block. -/
theorem iterate_tickBlock_samplePos_eq_zero_iff (j : Nat) :
    (tickBlock^[j] b).samplePos = 0#9 ↔ (b.samplePos.toNat + j) % 512 = 0 := by
  rw [← BitVec.toNat_inj, toNat_iterate_tickBlock_samplePos]
  rfl

/-- Up to the next block start no tick starts at one, so each keeps EVQ. -/
theorem iterate_tickBlock_evq {j : Nat} (hj : j ≤ (512 - b.samplePos.toNat) % 512) :
    (tickBlock^[j] b).evq = b.evq := by
  have hpos := b.samplePos.isLt
  induction j with
  | zero => rfl
  | succ j ih =>
    have hinside : ¬ (tickBlock^[j] b).samplePos = 0#9 := by
      rw [iterate_tickBlock_samplePos_eq_zero_iff]
      omega
    rw [Function.iterate_succ_apply', tickBlock_evq, if_neg hinside, ih (by omega)]

end

/-- Settles O43: EVQ is kept up to the next block start (`iterate_tickBlock_evq`), and the tick that starts there
empties it. -/
theorem eventLatency : Obligations.EventLatency := by
  intro b
  have hpos := b.samplePos.isLt
  have hstart : (tickBlock^[(512 - b.samplePos.toNat) % 512] b).samplePos = 0#9 := by
    rw [iterate_tickBlock_samplePos_eq_zero_iff]
    omega
  exact ⟨fun _ => iterate_tickBlock_evq b, by rw [Function.iterate_succ_apply', tickBlock_evq, if_pos hstart]⟩

/-! ## The bound of the mix -/

/-- What a tick makes of each voice of a legal block is a legal voice, a tick being one of the effects that keep them. -/
theorem voiceLegal_voiceAfter_tickStart {s : State} (h : Legal s.block) (i : Fin 4) :
    VoiceLegal (voiceAfter (tickStart s) i) := by
  obtain ⟨-, -, -, hbend, hvoices⟩ := (legal_iff _).1 h
  obtain ⟨-, hticked⟩ := voiceLegal_effect hbend hvoices (.tick s.draws)
  exact get_tick_voices s.block s.draws i ▸ hticked i

/-- A slot's turn widens whole bounds of the mix by 4 on both sides. -/
theorem within_mixAfter {b : Block} {i : Fin 4} {n : Int} {m : Num32} (hv : VoiceLegal (voiceAfter b i))
    (hm : within (-n) n m) (hn : 0 ≤ n) (hlim : n + 4 ≤ 2 ^ 24) : within (-(n + 4)) (n + 4) (mixAfter b i m) := by
  obtain ⟨-, -, hz⟩ := hv
  unfold mixAfter
  split
  · rw [neg_add]
    exact within_add hm (inFilterRange_iff.1 hz) (by rw [abs_le]; omega) (by rw [abs_le]; omega)
  · exact within_mono hm (by omega) (by omega)

/-- Whatever the order of the turns, each widens the bounds of the mix by 4. -/
theorem within_foldl_mixAfter {b : Block} (hv : ∀ i, VoiceLegal (voiceAfter b i)) (is : List (Fin 4)) {n : Int}
    {m : Num32} (hm : within (-n) n m) (hn : 0 ≤ n) (hlim : n + 4 * is.length ≤ 2 ^ 24) :
    within (-(n + 4 * is.length)) (n + 4 * is.length) (is.foldl (fun x i => mixAfter b i x) m) := by
  induction is generalizing n m with
  | nil => simpa using hm
  | cons i is ih =>
    have hlen : n + 4 * ((i :: is).length : Int) = n + 4 + 4 * (is.length : Int) := by
      rw [List.length_cons]; push_cast; ring
    rw [hlen] at hlim ⊢
    exact ih (within_mixAfter (hv i) hm hn (by omega)) (by omega) hlim

/-- Settles O51: four turns from +0.0, each adding a filter state within 4 (`within_foldl_mixAfter`). -/
theorem mixIsFiniteAndBounded : Obligations.MixIsFiniteAndBounded := by
  intro s h
  have hmix : within (-16) 16 (mixOf (tickStart s)) :=
    within_foldl_mixAfter (voiceLegal_voiceAfter_tickStart h) [0, 1, 2, 3] within_zero le_rfl (by decide)
  obtain ⟨hlow, hhigh⟩ := (within_iff (by decide) (by decide)).1 hmix
  exact ⟨_, _, exec_sampleTick s, rfl, hlow, hhigh⟩

/-! ## LEGACY_RACE -/

section
variable {c : Config} (d : Drained) (e : Event)

/-- An entry completed outside a block is applied, whatever LEGACY_RACE says (44_render.md R221). -/
theorem drainEntry_of_outside :
    drainEntry c d { event := e, mid := false } = { d with block := applyEvent e d.block } := by
  simp [drainEntry]

/-- An entry completed inside a block meets the race (44_render.md R230). -/
theorem drainEntry_of_race (h : c.legacyRace = true) : drainEntry c d { event := e, mid := true } = raceEvent c e d := by
  simp [drainEntry, h]

theorem raceEvent_of_kept (h : c.draw d.draws = true) :
    raceEvent c e d = { block := applyEvent e d.block, draws := d.draws + 1 } := if_pos h

theorem raceEvent_of_lost_noteOff (h : c.draw d.draws = false) (n : Data7) :
    raceEvent c (.noteOff n) d = { d with draws := d.draws + 1 } := by
  simp [raceEvent, h]

theorem raceEvent_of_lost_noteOn (h : c.draw d.draws = false) (n : Data7) :
    raceEvent c (.noteOn n) d =
      { block := if c.draw (d.draws + 1) then advanceCursor d.block else d.block, draws := d.draws + 2 } := by
  simp [raceEvent, h]

end

/-- Settles O46, by the cases of an entry and its draw. -/
theorem legacyRaceDrain : Obligations.LegacyRaceDrain := by
  intro c b k e hrace
  refine ⟨drainEntry_of_outside _ e, fun hkept => ?_, fun hlost n he => ?_, fun hlost n he => ?_⟩
  · rw [drainEntry_of_race _ _ hrace]
    exact raceEvent_of_kept _ e hkept
  · rw [he, drainEntry_of_race _ _ hrace]
    exact raceEvent_of_lost_noteOff _ hlost n
  · rw [he, drainEntry_of_race _ _ hrace]
    exact raceEvent_of_lost_noteOn _ hlost n

end Sys2Proof.Machine

/-! # The rows of the register port, run -/

namespace Sys2Proof.Machine

/-! ## Writes -/

/-- What a write to a numeric parameter stores, by the corner cases of 45_register_port.md R250. -/
theorem exec_decodeWrite_param_stored (p : Param) (d : Word) (s : State) :
    exec (decodeWrite (paramAddr p) d) s = .next { s with block := setParam p (storedUnit d) s.block, resp := .none } := by
  rw [exec_decodeWrite_param, silent, writeParam, word2num, clampUnit_eq_storedUnit]

/-- Settles O21: each numeric row is the write at its register's address (`exec_decodeWrite_param_stored`). -/
theorem writesStoreTheirWord : Obligations.WritesStoreTheirWord := fun d s =>
  have hstored (p : Param) := exec_decodeWrite_param_stored p d s
  ⟨hstored .cutoff, hstored .resonance, hstored .attack, hstored .decay, hstored .sustain, hstored .release,
    exec_decodeWrite_waveform d s⟩

/-! ## Transactions without effect -/

theorem ignoredWrite_eq (s : State) : ignoredWrite s = .next { s with resp := .none } := rfl

theorem reservedKind_eq (s : State) : reservedKind s = .next { s with resp := .none } := rfl

/-- Every kind that R80 gives no meaning runs as a reserved kind (45_register_port.md R255). -/
theorem exec_decodeTxn_reserved {w : TxnWord} (h : txnKind w = 0#4 ∨ 5 ≤ (txnKind w).toNat ∧ (txnKind w).toNat ≤ 14)
    (s : State) : exec (decodeTxn w) s = reservedKind s := by
  rw [← BitVec.toNat_inj, BitVec.toNat_ofNat] at h
  unfold decodeTxn
  dsimp only
  split
  case h_2 | h_3 | h_4 | h_5 | h_12 => omega
  all_goals rfl

/-- Settles O22: an ignored write and a reserved kind, as rows and as decoded, are the shared operations without effect. -/
theorem ignoredWritesAndReservedKindsDoNothing : Obligations.IgnoredWritesAndReservedKindsDoNothing := by
  intro a d k s
  have hwrite := ignoredWrite_eq s
  have hkind := reservedKind_eq s
  exact ⟨hwrite, hwrite, hwrite, hwrite, hwrite, hwrite, fun ha => (exec_decodeWrite_ignored ha d s).trans hwrite,
    hkind, hkind, hkind, hkind, hkind, hkind, fun w hw => (exec_decodeTxn_reserved hw s).trans hkind⟩

/-! ## Reads -/

section
variable (s : State)

theorem exec_decodeRead_param (p : Param) : exec (decodeRead (paramAddr p)) s = readParam p s := by
  cases p <;> rfl

theorem exec_rdVoice (i : Fin 4) (v : VoiceView) :
    exec (.rdVoice i v) s = respond (voiceView v (s.block.voices.get i)) s := rfl

theorem reservedRead_eq : reservedRead s = .next { s with resp := .word 0#32 } := rfl

end

/-- Settles O23: a parameter's row is the read at its register's address, a voice's row answers its view, and a reserved row
is the shared read of 0. -/
theorem readsAnswerTheirRegister : Obligations.ReadsAnswerTheirRegister := fun _ s =>
  have hparam := exec_decodeRead_param s
  have hvoice := exec_rdVoice s
  have hreserved := reservedRead_eq s
  ⟨hparam .cutoff, hparam .resonance, hparam .attack, hparam .decay, hparam .sustain, hparam .release,
    rfl, rfl, rfl, rfl,
    (hvoice · .vstate), (hvoice · .vlevel), (hvoice · .vphase), (hvoice · .vz),
    hreserved, hreserved, hreserved, hreserved, hreserved⟩

/-! ### Reads by address -/

/-- From PITCHBEND on an address is one of three single registers, a voice's view, or reserved (10_state.md section 11). -/
theorem readOnlyAddr_cases {a : Byte} (h : 0x07 ≤ a.toNat) :
    (a = 0x07#8 ∨ a = 0x08#8 ∨ a = 0x09#8) ∨ (0x10 ≤ a.toNat ∧ a.toNat ≤ 0x1F) ∨
      (0x0A ≤ a.toNat ∧ ¬(0x10 ≤ a.toNat ∧ a.toNat ≤ 0x1F)) := by
  have hsingle : ∀ a : Byte, 0x07 ≤ a.toNat → a.toNat < 0x0A → a = 0x07#8 ∨ a = 0x08#8 ∨ a = 0x09#8 := by decide
  rcases Nat.lt_or_ge a.toNat 0x0A with hlt | hge
  · exact .inl (hsingle a h hlt)
  · exact .inr (by omega)

section
variable {a : Byte}

theorem decodeRead_voice (h : 0x10 ≤ a.toNat) (h' : a.toNat ≤ 0x1F) :
    decodeRead a = .rdVoice (slotOf (a.toNat - 0x10)) (viewOf (a.toNat - 0x10)) := by
  rw [decodeRead_of_ge (by omega), if_neg (by omega), if_neg (by omega), if_pos (by omega)]

theorem regRead_reserved (c : Config) (b : Block) (h : 0x0A ≤ a.toNat) (h' : ¬(0x10 ≤ a.toNat ∧ a.toNat ≤ 0x1F)) :
    regRead c b a = 0#32 := by
  unfold regRead
  split
  case h_11 => exact if_neg (by omega)
  all_goals omega

theorem exec_decodeRead_reserved (h : 0x0A ≤ a.toNat) (h' : ¬(0x10 ≤ a.toNat ∧ a.toNat ≤ 0x1F)) (s : State) :
    exec (decodeRead a) s = reservedRead s := by
  rw [decodeRead_of_ge h]
  split_ifs
  · rfl
  · rfl
  · omega
  all_goals rfl

end

/-- Settles O24, by the kinds of addresses (`addr_cases`, `readOnlyAddr_cases`). -/
theorem readFollowsTheMap : Obligations.ReadFollowsTheMap := by
  intro a s
  rcases addr_cases a with ⟨p, rfl⟩ | rfl | ha
  · rw [exec_decodeRead_param, regRead_paramAddr]
    rfl
  · rfl
  · rcases readOnlyAddr_cases ha with (rfl | rfl | rfl) | ⟨hlo, hhi⟩ | ⟨hlo, hout⟩
    · rfl
    · rfl
    · rfl
    · rw [decodeRead_voice hlo hhi, exec_rdVoice, regRead_voice _ _ hlo hhi]
      rfl
    · rw [exec_decodeRead_reserved hlo hout s, regRead_reserved _ _ hlo hout, reservedRead_eq]

end Sys2Proof.Machine

/-! # No fault and no refusal -/

namespace Sys2Proof.Machine

/-- Settles O9: `exec_answers`, the case split over the instructions, even names the elements a next state can differ in. -/
theorem noTransactionFaults : Obligations.NoTransactionFaults := fun i s =>
  have ⟨_, _, _, hnext⟩ := exec_answers i s
  ⟨_, hnext⟩

end Sys2Proof.Machine

/-! # RESET sets every element of the block -/

namespace Sys2Proof.Machine

/-- RESET replaces the block, whatever it held, and keeps the agents' transactions (70_reset_and_hazards.md R290). -/
theorem exec_reset (s : State) : exec .reset s = .next { s with block := Block.reset Config.hw, resp := .none } := rfl

/-- The six numeric parameters after RESET are what a register write would store of RESET_PARAMS
(70_reset_and_hazards.md R290; 45_register_port.md R250). -/
theorem params_reset (c : Config) :
    (Block.reset c).cutoff = storedUnit c.resetParams.cutoff ∧
    (Block.reset c).resonance = storedUnit c.resetParams.resonance ∧
    (Block.reset c).attack = storedUnit c.resetParams.attack ∧
    (Block.reset c).decay = storedUnit c.resetParams.decay ∧
    (Block.reset c).sustain = storedUnit c.resetParams.sustain ∧
    (Block.reset c).release = storedUnit c.resetParams.release := by
  simp only [← clampUnit_eq_storedUnit]
  exact ⟨rfl, rfl, rfl, rfl, rfl, rfl⟩

/-- Settles O27: the next state is `exec_reset`'s, the voices are `get_voices_reset`, the numeric parameters `params_reset`. -/
theorem resetSetsEveryElement : Obligations.ResetSetsEveryElement := by
  intro s
  obtain ⟨hcutoff, hresonance, hattack, hdecay, hsustain, hrelease⟩ := params_reset Config.hw
  exact ⟨_, exec_reset s, rfl, rfl, get_voices_reset Config.hw, rfl,
    hcutoff, hresonance, hattack, hdecay, hsustain, hrelease, rfl, rfl, rfl, rfl, rfl, rfl⟩

/-- Settles O28: the block that `exec_reset` gives is the one at power-on (70_reset_and_hazards.md R291) and does not depend
on the state before, so a second RESET gives the same state again. -/
theorem powerOnIsTheStateAfterReset : Obligations.PowerOnIsTheStateAfterReset := fun s =>
  ⟨_, exec_reset s, rfl, exec_reset _⟩

end Sys2Proof.Machine
